-- ==== Sys2Proof/Word.lean ====
section
/-! DEFINITION. The widths of the machine (00_scope.md R5, R7, R8): names for the bit vectors the spec treats as bits. -/

namespace Sys2Proof

/-- A general register, an ALU operand or result, a word of data memory, a port register: 32 bits (R5). -/
abbrev Word := BitVec 32

/-- An instruction word `IR`: 18 bits (R5, R90). -/
abbrev Code := BitVec 18

/-- An address of program memory, the width of `pc`: 12 bits (R5, R30). -/
abbrev PAddr := BitVec 12

/-- A register number, one of the 4-bit fields d, b, a (R21). -/
abbrev RegNo := BitVec 4

/-- A port number, the signal `ioadr`: 5 bits (R47, R67). -/
abbrev PortNo := BitVec 5

/-- The least value of program memory that is no address: 4096 instructions (R5, R45). -/
abbrev pmemWords : Nat := 4096

/-- The number of words of data memory: 2048 (R5, R46). -/
abbrev dmemWords : Nat := 2048

end Sys2Proof
end

