-- ==== Sys2Proof/Syntax.lean ====
section
/-! DEFINITION. The instructions: one constructor per row of spec/opcode_table.json (30_encoding.md R100). A don't-care bit
is no operand (R102: words that differ only in such bits are the same instruction). Every operand has exactly the width of
its field. -/

namespace Sys2Proof

/-- The sixteen conditions of Bc in the order of their codes `cccc` (46_relative_branch.md R181; names of 30_encoding.md R111). -/
inductive Cond where
  | eq | neq | cs | cc | n | nn | v | nv | hi | ls | geq | lss | gtr | leq | always | never
  deriving DecidableEq, Repr

/-- An instruction. `d`, `b`, `a` are register numbers, `n` and `off` literals of the instruction word, `k` the two
significant bits of the mode-setting form (30_encoding.md R92 to R94, R100). -/
inductive Instr where
  /-- `AND_Rd_Rb_n`: 0000ddddbbbb0nnnnn (R121). -/
  | andRL (d b : RegNo) (n : BitVec 5)
  /-- `AND_Rd_Rb_Ra`: 0000ddddbbbb1xaaaa (R121). -/
  | andRR (d b a : RegNo)
  /-- `BIC_Rd_Rb_n`: 0001ddddbbbb0nnnnn (R122). -/
  | bicRL (d b : RegNo) (n : BitVec 5)
  /-- `BIC_Rd_Rb_Ra`: 0001ddddbbbb1xaaaa (R122). -/
  | bicRR (d b a : RegNo)
  /-- `OR_Rd_Rb_n`: 0010ddddbbbb0nnnnn (R123). -/
  | orRL (d b : RegNo) (n : BitVec 5)
  /-- `OR_Rd_Rb_Ra`: 0010ddddbbbb1xaaaa (R123). -/
  | orRR (d b a : RegNo)
  /-- `XOR_Rd_Rb_n`: 0011ddddbbbb0nnnnn (R124). -/
  | xorRL (d b : RegNo) (n : BitVec 5)
  /-- `XOR_Rd_Rb_Ra`: 0011ddddbbbb1xaaaa (R124). -/
  | xorRR (d b a : RegNo)
  /-- `ADD_Rd_Rb_n`: 0100ddddbbbb0nnnnn (R130). -/
  | addRL (d b : RegNo) (n : BitVec 5)
  /-- `ADD_Rd_Rb_Ra`: 0100ddddbbbb1xaaaa (R130). -/
  | addRR (d b a : RegNo)
  /-- `SUB_Rd_Rb_n`: 0101ddddbbbb0nnnnn (R131). -/
  | subRL (d b : RegNo) (n : BitVec 5)
  /-- `SUB_Rd_Rb_Ra`: 0101ddddbbbb1xaaaa (R131). -/
  | subRR (d b a : RegNo)
  /-- `MUL_Rd_Rb_n`: 0110ddddbbbb0nnnnn (R134). -/
  | mulRL (d b : RegNo) (n : BitVec 5)
  /-- `MUL_Rd_Rb_Ra`: 0110ddddbbbb1xaaaa (R134). -/
  | mulRR (d b a : RegNo)
  /-- `NOT_Rd_n`: 0111ddddxxxx0nnnnn (R140). -/
  | notRL (d : RegNo) (n : BitVec 5)
  /-- `NOT_Rd_Ra`: 0111ddddxxxx10aaaa (R140). -/
  | notRR (d a : RegNo)
  /-- `LDH_Rd`: 0111ddddxxxx110000 (R141). -/
  | ldh (d : RegNo)
  /-- `LDC_Rd`: 0111ddddxxxx110001 (R142). -/
  | ldc (d : RegNo)
  /-- `LIT_Rd_n`: 1000ddddnnnnnnnnnn (R150). -/
  | lit (d : RegNo) (n : BitVec 10)
  /-- `ROR_Rd_Rb_n`: 1001ddddbbbb0nnnnn (R151). -/
  | rorRL (d b : RegNo) (n : BitVec 5)
  /-- `ROR_Rd_Rb_Ra`: 1001ddddbbbb1xaaaa (R151). -/
  | rorRR (d b a : RegNo)
  /-- `BLR_Ra`: 1010xxxxxxxx1xaaaa (R160). -/
  | blr (a : RegNo)
  /-- `BR_Ra__bank_0`: 1011xxxxxxxx10aaaa (R161). -/
  | brReg (a : RegNo)
  /-- `BR_mode_k__SETPSR`: 1011xxxxxxxx0xxxkk (R162). -/
  | brMode (k : BitVec 2)
  /-- `BR_Ra__bank_1__return_from_interrupt`: 1011xxxxxxxx11aaaa (R163). -/
  | brRet (a : RegNo)
  /-- `LD_Rd_Rb_n`: 1100ddddbbbb0nnnnn (R170). -/
  | ldRL (d b : RegNo) (n : BitVec 5)
  /-- `LD_Rd_Rb_Ra`: 1100ddddbbbb1xaaaa (R170). -/
  | ldRR (d b a : RegNo)
  /-- `ST_Rd_Rb_n`: 1101ddddbbbb0nnnnn (R171). -/
  | stRL (d b : RegNo) (n : BitVec 5)
  /-- `ST_Rd_Rb_Ra`: 1101ddddbbbb1xaaaa (R171). -/
  | stRR (d b a : RegNo)
  /-- `BEQ_n`: 11100000nnnnnnnnnn (R180). -/
  | beq (off : BitVec 10)
  /-- `BNEQ_n`: 11100001nnnnnnnnnn (R180). -/
  | bneq (off : BitVec 10)
  /-- `BCS_n`: 11100010nnnnnnnnnn (R180). -/
  | bcs (off : BitVec 10)
  /-- `BCC_n`: 11100011nnnnnnnnnn (R180). -/
  | bcc (off : BitVec 10)
  /-- `B.N_n`: 11100100nnnnnnnnnn (R180). -/
  | bn (off : BitVec 10)
  /-- `B.NN_n`: 11100101nnnnnnnnnn (R180). -/
  | bnn (off : BitVec 10)
  /-- `B.V_n`: 11100110nnnnnnnnnn (R180). -/
  | bv (off : BitVec 10)
  /-- `B.NV_n`: 11100111nnnnnnnnnn (R180). -/
  | bnv (off : BitVec 10)
  /-- `BHI_n`: 11101000nnnnnnnnnn (R180). -/
  | bhi (off : BitVec 10)
  /-- `BLS_n`: 11101001nnnnnnnnnn (R180). -/
  | bls (off : BitVec 10)
  /-- `BGEQ_n`: 11101010nnnnnnnnnn (R180). -/
  | bgeq (off : BitVec 10)
  /-- `BLSS_n`: 11101011nnnnnnnnnn (R180). -/
  | blss (off : BitVec 10)
  /-- `BGTR_n`: 11101100nnnnnnnnnn (R180). -/
  | bgtr (off : BitVec 10)
  /-- `BLEQ_n`: 11101101nnnnnnnnnn (R180). -/
  | bleq (off : BitVec 10)
  /-- `B.T_n`: 11101110nnnnnnnnnn (R180). -/
  | bt (off : BitVec 10)
  /-- `B.F_n`: 11101111nnnnnnnnnn (R180). -/
  | bf (off : BitVec 10)
  /-- `BL_n`: 1111nnnnnnnnnnnnnn (R182). -/
  | bl (off : BitVec 14)
  deriving DecidableEq, Repr

end Sys2Proof
end

