-- ==== Sys2Proof/WellFormed.lean ====
section
/-! DEFINITION. Which words are instructions. A term of `Instr` cannot be ill formed: each operand has exactly the width of
its field, so that no check on terms is left over. What CAN be ill formed is a word: 30_encoding.md R103 names the two groups
of words to which the map R100 assigns no instruction, and each is one check here. -/

namespace Sys2Proof

/-- The two groups of words without an instruction (R103). -/
inductive Unassigned where
  /-- Group (a): op = 0111, IR[5:4] = 11, IR[3:0] in 2..15 (R143). -/
  | op0111
  /-- Group (b): op = 1010, IR[5] = 0 (R164). -/
  | op1010
  deriving DecidableEq, Repr

/-- Check (a): the word is of group (a) of R103. -/
def inOp0111 (w : Code) : Bool :=
  w.extractLsb' 14 4 == 0b0111#4 && w.extractLsb' 4 2 == 0b11#2 && decide (2 ≤ (w.extractLsb' 0 4).toNat)

/-- Check (b): the word is of group (b) of R103. -/
def inOp1010 (w : Code) : Bool :=
  w.extractLsb' 14 4 == 0b1010#4 && !w.getLsbD 5

/-- The words R101 reads as a documented instruction. -/
def wellFormedWord (w : Code) : Bool :=
  !inOp0111 w && !inOp1010 w

end Sys2Proof
end

