-- ==== Sys2Proof/Decode.lean ====
section
/-! DEFINITION. The decoder of 30_encoding.md R101, total on all 2^18 words, and the encoder, which writes the canonical word
of an instruction (R102: 0 in every don't-care bit). -/

namespace Sys2Proof

/-- IR[17:14] (R91). -/
def opField (w : Code) : BitVec 4 := w.extractLsb' 14 4
/-- IR[13:10], the destination register, or the condition of Bc (R91). -/
def dField (w : Code) : BitVec 4 := w.extractLsb' 10 4
/-- IR[9:6], the first source register (R91). -/
def bField (w : Code) : BitVec 4 := w.extractLsb' 6 4
/-- IR[3:0], the second source register (R92). -/
def aField (w : Code) : BitVec 4 := w.extractLsb' 0 4
/-- IR[5]: register form rather than literal form (R92). -/
def sBit (w : Code) : Bool := w.getLsbD 5
/-- IR[4] (R92). -/
def tBit (w : Code) : Bool := w.getLsbD 4
/-- IR[4:0], the 5-bit literal (R92). -/
def lit5 (w : Code) : BitVec 5 := w.extractLsb' 0 5
/-- IR[9:0], the literal of LIT and the offset of Bc (R93). -/
def lit10 (w : Code) : BitVec 10 := w.extractLsb' 0 10
/-- IR[13:0], the offset of BL (R94). -/
def lit14 (w : Code) : BitVec 14 := w.extractLsb' 0 14
/-- IR[1:0], the new bank number and the new interrupt enable (R162). -/
def kField (w : Code) : BitVec 2 := w.extractLsb' 0 2

/-- Opcode 0111, decoded on IR[5], IR[4], IR[3:0] (R101, R143). -/
def decode0111 (w : Code) : Except Unassigned Instr :=
  if sBit w then
    if tBit w then
      match (aField w).toNat with
      | 0 => .ok (.ldh (dField w))
      | 1 => .ok (.ldc (dField w))
      | _ => .error .op0111
    else .ok (.notRR (dField w) (aField w))
  else .ok (.notRL (dField w) (lit5 w))

/-- Opcode 1010: BLR, or unassigned (R101, R164). -/
def decode1010 (w : Code) : Except Unassigned Instr :=
  if sBit w then .ok (.blr (aField w)) else .error .op1010

/-- Opcode 1011: the three forms of BR (R101). -/
def decode1011 (w : Code) : Instr :=
  if sBit w then
    if tBit w then .brRet (aField w) else .brReg (aField w)
  else .brMode (kField w)

/-- Opcode 1110: Bc by its condition code (R181). -/
def decodeBc (cccc : BitVec 4) (off : BitVec 10) : Instr :=
  match cccc.toNat with
  | 0 => .beq off
  | 1 => .bneq off
  | 2 => .bcs off
  | 3 => .bcc off
  | 4 => .bn off
  | 5 => .bnn off
  | 6 => .bv off
  | 7 => .bnv off
  | 8 => .bhi off
  | 9 => .bls off
  | 10 => .bgeq off
  | 11 => .blss off
  | 12 => .bgtr off
  | 13 => .bleq off
  | 14 => .bt off
  | _ => .bf off

/-- The two forms of a register-format opcode: IR[5] chooses, IR[4] of the register form is don't-care (R101, R102). -/
def decodeForms (w : Code) (rl : RegNo → RegNo → BitVec 5 → Instr) (rr : RegNo → RegNo → RegNo → Instr) : Instr :=
  if sBit w then rr (dField w) (bField w) (aField w) else rl (dField w) (bField w) (lit5 w)

/-- The instruction a word stands for, or the group of R103 that it belongs to (R101). -/
def decode (w : Code) : Except Unassigned Instr :=
  match (opField w).toNat with
  | 0 => .ok (decodeForms w .andRL .andRR)
  | 1 => .ok (decodeForms w .bicRL .bicRR)
  | 2 => .ok (decodeForms w .orRL .orRR)
  | 3 => .ok (decodeForms w .xorRL .xorRR)
  | 4 => .ok (decodeForms w .addRL .addRR)
  | 5 => .ok (decodeForms w .subRL .subRR)
  | 6 => .ok (decodeForms w .mulRL .mulRR)
  | 7 => decode0111 w
  | 8 => .ok (.lit (dField w) (lit10 w))
  | 9 => .ok (decodeForms w .rorRL .rorRR)
  | 10 => decode1010 w
  | 11 => .ok (decode1011 w)
  | 12 => .ok (decodeForms w .ldRL .ldRR)
  | 13 => .ok (decodeForms w .stRL .stRR)
  | 14 => .ok (decodeBc (dField w) (lit10 w))
  | _ => .ok (.bl (lit14 w))

/-- The register format with a 5-bit literal, IR[5] = 0 (R92). -/
def formRL (op d b : BitVec 4) (n : BitVec 5) : Code := op ++ d ++ b ++ 0#1 ++ n
/-- The register format with a second register, IR[5] = 1, and IR[4] as given (R92). -/
def formRR (op d b : BitVec 4) (t : BitVec 1) (a : BitVec 4) : Code := op ++ d ++ b ++ 1#1 ++ t ++ a
/-- The format of LIT and Bc (R93). -/
def formL (op d : BitVec 4) (n : BitVec 10) : Code := op ++ d ++ n
/-- The format of BL (R94). -/
def formB (op : BitVec 4) (n : BitVec 14) : Code := op ++ n

/-- The canonical word of an instruction: the encoding lines of R100 with 0 in every don't-care bit (R102). -/
def encode : Instr → Code
  | .andRL d b n => formRL 0b0000#4 d b n
  | .andRR d b a => formRR 0b0000#4 d b 0#1 a
  | .bicRL d b n => formRL 0b0001#4 d b n
  | .bicRR d b a => formRR 0b0001#4 d b 0#1 a
  | .orRL d b n => formRL 0b0010#4 d b n
  | .orRR d b a => formRR 0b0010#4 d b 0#1 a
  | .xorRL d b n => formRL 0b0011#4 d b n
  | .xorRR d b a => formRR 0b0011#4 d b 0#1 a
  | .addRL d b n => formRL 0b0100#4 d b n
  | .addRR d b a => formRR 0b0100#4 d b 0#1 a
  | .subRL d b n => formRL 0b0101#4 d b n
  | .subRR d b a => formRR 0b0101#4 d b 0#1 a
  | .mulRL d b n => formRL 0b0110#4 d b n
  | .mulRR d b a => formRR 0b0110#4 d b 0#1 a
  | .notRL d n => formRL 0b0111#4 d 0#4 n
  | .notRR d a => formRR 0b0111#4 d 0#4 0#1 a
  | .ldh d => formRR 0b0111#4 d 0#4 1#1 0b0000#4
  | .ldc d => formRR 0b0111#4 d 0#4 1#1 0b0001#4
  | .lit d n => formL 0b1000#4 d n
  | .rorRL d b n => formRL 0b1001#4 d b n
  | .rorRR d b a => formRR 0b1001#4 d b 0#1 a
  | .blr a => formRR 0b1010#4 0#4 0#4 0#1 a
  | .brReg a => formRR 0b1011#4 0#4 0#4 0#1 a
  | .brMode k => formRL 0b1011#4 0#4 0#4 (0#3 ++ k)
  | .brRet a => formRR 0b1011#4 0#4 0#4 1#1 a
  | .ldRL d b n => formRL 0b1100#4 d b n
  | .ldRR d b a => formRR 0b1100#4 d b 0#1 a
  | .stRL d b n => formRL 0b1101#4 d b n
  | .stRR d b a => formRR 0b1101#4 d b 0#1 a
  | .beq off => formL 0b1110#4 0#4 off
  | .bneq off => formL 0b1110#4 1#4 off
  | .bcs off => formL 0b1110#4 2#4 off
  | .bcc off => formL 0b1110#4 3#4 off
  | .bn off => formL 0b1110#4 4#4 off
  | .bnn off => formL 0b1110#4 5#4 off
  | .bv off => formL 0b1110#4 6#4 off
  | .bnv off => formL 0b1110#4 7#4 off
  | .bhi off => formL 0b1110#4 8#4 off
  | .bls off => formL 0b1110#4 9#4 off
  | .bgeq off => formL 0b1110#4 10#4 off
  | .blss off => formL 0b1110#4 11#4 off
  | .bgtr off => formL 0b1110#4 12#4 off
  | .bleq off => formL 0b1110#4 13#4 off
  | .bt off => formL 0b1110#4 14#4 off
  | .bf off => formL 0b1110#4 15#4 off
  | .bl off => formB 0b1111#4 off

/-- The bits of a word that its instruction depends on: all but the don't-care bits of R102. (IR[13:12] of BL are digits of
its literal there, and are kept.) -/
def significant (i : Instr) : Code :=
  match i with
  | .andRR .. | .bicRR .. | .orRR .. | .xorRR .. | .addRR .. | .subRR .. | .mulRR .. | .rorRR .. | .ldRR .. | .stRR .. =>
    0b111111111111101111#18
  | .notRL .. | .notRR .. | .ldh .. | .ldc .. => 0b111111110000111111#18
  | .blr .. => 0b111100000000101111#18
  | .brReg .. | .brRet .. => 0b111100000000111111#18
  | .brMode .. => 0b111100000000100011#18
  | .andRL .. | .bicRL .. | .orRL .. | .xorRL .. | .addRL .. | .subRL .. | .mulRL .. | .rorRL .. | .ldRL .. | .stRL ..
  | .lit .. | .bl ..
  | .beq .. | .bneq .. | .bcs .. | .bcc .. | .bn .. | .bnn .. | .bv .. | .bnv .. | .bhi .. | .bls .. | .bgeq .. | .blss ..
  | .bgtr .. | .bleq .. | .bt .. | .bf .. => 0b111111111111111111#18

/-- What the decoder reads from the instruction whose bits are `w`, bit 0 the least significant bit of its one 18-bit word.
An instruction is one word (R90), so that `nbits` (18 bits in whole bytes) says nothing more; a number of more than 18 bits
is no word. -/
def decodeTableWord (_nbits w : Nat) : Option Instr :=
  if w < 262144 then (decode (BitVec.ofNat 18 w)).toOption else none

end Sys2Proof
end

