-- ==== Sys2Proof/Config.lean ====
section
/-! DEFINITION. The open parameters of 00_scope.md R6 as types, and the FREE VALUES: constants without a body, of which
nothing can be proved but what holds for every value (the `draw(n)` of R9). -/

namespace Sys2Proof

/-- `NOT_MODE` (42_not_ldh_ldc.md R140, D12, C2): what opcode 0111 computes in its NOT forms. -/
inductive NotMode where
  | negate      -- the operation column of the manual, the spec's default
  | complement  -- what the mnemonic says
  deriving DecidableEq, Repr

/-- `MUL_SIGNEDNESS` (41_arith.md R134, D13): how the factors are read when the 64-bit product is formed. -/
inductive MulSignedness where
  | signed
  | unsigned
  deriving DecidableEq, Repr, Inhabited

/-- `ADDR_DECODE` (20_memory.md R66, D15): what becomes of a data address that is neither data memory nor I/O window. -/
inductive AddrDecode where
  | refuse  -- the spec's default
  | aliased  -- the spec's `alias`: only the low address bits are looked at
  deriving DecidableEq, Repr

/-- Whether a netNode has one buffer address register for both buffers or one each, which 60_exceptions.md R227 leaves
open (N13): a parameter of the model's own (log entries 2 and 20). -/
inductive BufAddr where
  | shared
  | separate
  deriving DecidableEq, Repr, Inhabited

/-- A command in the DDR2 controller's AF FIFO (60_exceptions.md R240, R241): the block address, bits 22:0 of the
command register, and the direction, bit 23 (1 = read). -/
structure DdrCommand where
  block : BitVec 23
  read : Bool
  deriving DecidableEq, Repr

namespace Config

/-- FREE VALUE. `draw w k` is the `k`-th value drawn, at width `w`: `draw(w)` of R9 (log entry 9). -/
opaque draw (w k : Nat) : BitVec w

/-- FREE VALUE. `INIT_DMEM` (R6, R55, U18): what the data word at an address holds when nothing has written it (log entry 6). -/
opaque initDMem : Nat → Word

/-- FREE VALUE. The implementation's reading of the factors of MUL, for which the spec has no default (R134, log entry 2). -/
opaque mulSignedness : MulSignedness

/-- FREE VALUE. The implementation's netNode buffer address register, one or two (R227, log entry 2). -/
opaque bufAddr : BufAddr

/-- FREE VALUE. What the AF FIFO holds after a command was written while it was not ready (U12, log entry 23). -/
opaque ddrCommands : Nat → List DdrCommand

/-- FREE VALUE. What the WB FIFO holds after data was written while it was not ready, and the RB FIFO after data was read while
none was (U12, log entry 23). -/
opaque ddrBlocks : Nat → List (Vector Word 8)

end Config

end Sys2Proof
end

