-- ==== Sys2Proof/Machine/State.lean ====
section
/-! DEFINITION. The state of one core and of the devices at its I/O ports (10_state.md, 60_exceptions.md R225 to R244), the
reasons a step can stop, and the state at start (10_state.md R55). All of it is plain data. -/

namespace Sys2Proof.Machine

/-- The four condition flags (10_state.md R35). -/
structure Flags where
  n : Bool
  z : Bool
  c : Bool
  v : Bool
  deriving DecidableEq, Repr

/-- The open parameters of 00_scope.md R6 that an instruction depends on. Constants: no step changes them (log entry 2). -/
structure Params where
  notMode : NotMode
  mulSignedness : MulSignedness
  addrDecode : AddrDecode
  bufAddr : BufAddr
  deriving DecidableEq, Repr

/-- The netNode of the core (60_exceptions.md R225 to R227). -/
structure NetNode where
  /-- Bits 15:8 of the command register, the id of the netNode (R226). -/
  id : BitVec 8
  /-- The input message buffer, 32 words (R225). -/
  inBuf : Vector Word 32
  /-- The output message buffer, 32 words (R225). -/
  outBuf : Vector Word 32
  /-- The input buffer address register (R227); 32 and above are beyond the buffer (log entry 20). -/
  inAddr : BitVec 6
  /-- The output buffer address register (R227). -/
  outAddr : BitVec 6
  /-- Command bit 0 as last answered: a received message is in the input buffer (R226). -/
  inReady : Bool
  /-- Command bit 1 as last answered was 0, and no message was handed over since: the output buffer is empty (R226). -/
  outFree : Bool
  /-- Command bit 4: enable the message received interrupt (R205). -/
  enMsgIn : Bool
  /-- Command bit 5: enable the output buffer empty interrupt (R205). -/
  enOutEmpty : Bool
  deriving DecidableEq, Repr

/-- The RS232 controller (60_exceptions.md R232, R233). -/
structure Rs232 where
  /-- Command bit 0 as last answered, and the buffer was not cleared since: a byte is received and ready to be read (R233), the
  condition of vector 4 (R205). -/
  rxReady : Bool
  /-- The received byte, as last delivered and neither cleared nor reported absent since. -/
  rxBuf : Option (BitVec 8)
  /-- Command bit 1 as last answered, not yet used by a write of the data register. -/
  txReady : Bool
  /-- The byte last handed to the transmitter. -/
  txByte : BitVec 8
  /-- Command bit 3: enable the receiving interrupt (R205). -/
  enRx : Bool
  deriving DecidableEq, Repr

/-- The LCD controller: its three command bits and its data lines (60_exceptions.md R237). -/
structure Lcd where
  rw : Bool
  rs : Bool
  e : Bool
  /-- What was last written for the data lines. DESIGN CHOICE (log entry 22): how many lines there are is not in the sources
  (R237, N16; 20_memory.md R74 only calls the port narrower than 32 bits), so that all 32 bits written are kept. -/
  data : Word
  deriving DecidableEq, Repr

/-- The interface to the DDR2 controller (60_exceptions.md R240 to R243). -/
structure Ddr2 where
  /-- The 256-bit buffer of the block being written. -/
  writeBuf : Vector Word 8
  /-- The 256-bit buffer of the block being read. -/
  readBuf : Vector Word 8
  /-- The 3-bit word index register. -/
  index : BitVec 3
  /-- The AF FIFO: commands issued and not yet taken by the controller. -/
  af : List DdrCommand
  /-- The WB FIFO: blocks written and not yet taken by the controller. -/
  wb : List (Vector Word 8)
  /-- The RB FIFO: blocks read out of the memory and not yet in the read buffer. -/
  rb : List (Vector Word 8)
  /-- Status bit 28 (command buffer ready) as last answered, not yet used by a command. -/
  afReady : Bool
  /-- Status bit 29 (write data buffer ready) as last answered, not yet used by a block. -/
  wbReady : Bool
  /-- Status bit 30 (a block is ready in the read data buffer) as last answered, its eighth word not yet read. -/
  rbReady : Bool
  /-- Status bit 31 (calibration fail) as last answered. DESIGN CHOICE: nothing depends on it (N14, log entry 23). -/
  calFail : Bool
  deriving DecidableEq, Repr

/-- The devices at the I/O ports (10_state.md R51). A core that does not have a device never touches its fields (20_memory.md R71). -/
structure Devices where
  netNode : NetNode
  rs232 : Rs232
  /-- The clock counter of the Timer (60_exceptions.md R235). DESIGN CHOICE (log entry 22): its width is not in the sources
  (N15), and 32 bits, the width of the bus, are kept. -/
  timer : Word
  lcd : Lcd
  /-- What drives the 8 LEDs (R239). -/
  leds : BitVec 8
  /-- The 8 switches, Switch 1 in bit 7, as last read (R239). -/
  switches : BitVec 8
  ddr2 : Ddr2
  deriving DecidableEq, Repr

/-- The three sources of interrupts (60_exceptions.md R205). -/
inductive IrqSource where
  | msgInput
  | msgOutput
  | rs232
  deriving DecidableEq, Repr

/-- What the outside answers at an instruction boundary with `GIE` = 1 (60_exceptions.md R209): which sources request, and
whether an entry is taken at this boundary rather than a later one. -/
structure IrqAnswer where
  msgInput : Bool
  msgOutput : Bool
  rs232 : Bool
  enterNow : Bool
  deriving DecidableEq, Repr

/-- The `IO_ORACLE` of 00_scope.md R6 and the `draw(n)` of R9 as plain data; the model's own (log entries 9, 10, 11, 23). -/
structure Oracle where
  /-- Answers to the coming port reads; a free value is the answer when there is none. -/
  ioAnswers : List Word
  /-- Answers at the coming boundaries with `GIE` = 1; a free value is the answer when there is none. -/
  irqAnswers : List IrqAnswer
  /-- Blocks the DDR2 memory will give to the coming read commands; a free value is the block when there is none. -/
  blockAnswers : List (Vector Word 8)
  /-- How many free values have been drawn. -/
  draws : Nat
  deriving DecidableEq, Repr

/-- One I/O access (70_reset_and_hazards.md R282): port, direction, value. -/
inductive IoEvent where
  | read (port : PortNo) (v : Word)
  | write (port : PortNo) (v : Word)
  deriving DecidableEq, Repr

/-- The state of the machine: one core (10_state.md R20), its devices (R51), the parameters, the oracle and the trace. -/
structure State where
  /-- `CORE_ID` (00_scope.md R6): which of the twelve cores this is. A constant (log entry 1). -/
  coreId : Fin 12
  params : Params
  /-- `RF[0][0..15]`, the registers of the main process (R22). -/
  bank0 : Vector Word 16
  /-- `RF[1][0..15]`, the registers of the interrupt handling routine (R22). -/
  bank1 : Vector Word 16
  /-- The address of the instruction being executed (R30). -/
  pc : PAddr
  flags : Flags
  /-- `H`, the high half of the product (R38). -/
  h : Word
  /-- `intMd`, the current bank: false is 0, true is 1 (R40). -/
  intMd : Bool
  /-- `GIE`, the global interrupt enable (R41). -/
  gie : Bool
  /-- `PMem` (R45), the loaded words by rising address. -/
  pmem : List (Nat × Code)
  /-- `DMem` (R46), the written words by rising address. -/
  dmem : List (Nat × Word)
  dev : Devices
  oracle : Oracle
  /-- The I/O accesses so far, in program order (R282). -/
  trace : List IoEvent
  deriving DecidableEq, Repr

/-- Why the machine stops with a fault. The hardware has none (60_exceptions.md R200). -/
inductive Fault where
  /-- Raised by the fetch (93_implementation_defined.md U19): no image gives the program word at `pc`. Safe: the machine
  stops where hardware runs unknown content. -/
  | unloadedProgramWord
  deriving DecidableEq, Repr

/-- Why a step has no meaning: the spec's `refuse` (00_scope.md R10). All are safe: the model stops where the spec gives
hardware no behaviour. -/
inductive Refusal where
  /-- An instruction that has no meaning yet: no arm of `exec` raises it. -/
  | notModelled (mnemonic : String)
  /-- Raised by the step on a word of 30_encoding.md R103. -/
  | unassignedEncoding (group : Unassigned)
  /-- Raised by LD and ST on an undecoded address with `ADDR_DECODE` = `refuse` (20_memory.md R66). -/
  | undecodedAddress
  /-- Raised by LD and ST on a port number that is undocumented or not connected to this core (20_memory.md R68). -/
  | noSuchPort
  /-- Raised by the bank 0 form of BR executed with `intMd` = 1 (44_register_branch.md R161). -/
  | brBank0InInterruptMode
  /-- Raised by the return form of BR executed with `intMd` = 0 (44_register_branch.md R163). -/
  | brReturnOutsideInterruptMode
  deriving DecidableEq, Repr

/-- What an instruction or a step answers. -/
abbrev Result := Host.Outcome State Fault Refusal

/-- The devices at start: nothing observed, nothing enabled, buffers and registers 0 (DESIGN CHOICE, unsafe: the spec gives
no value, 10_state.md R55, U22; log entries 19 and 28). -/
def Devices.reset : Devices where
  netNode :=
    { id := 0x0B#8, inBuf := Vector.replicate 32 0#32, outBuf := Vector.replicate 32 0#32, inAddr := 0#6, outAddr := 0#6,
      inReady := false, outFree := false, enMsgIn := false, enOutEmpty := false }
  rs232 := { rxReady := false, rxBuf := none, txReady := false, txByte := 0#8, enRx := false }
  timer := 0#32
  lcd := { rw := false, rs := false, e := false, data := 0#32 }
  leds := 0#8
  switches := 0#8
  ddr2 :=
    { writeBuf := Vector.replicate 8 0#32, readBuf := Vector.replicate 8 0#32, index := 0#3, af := [], wb := [], rb := [],
      afReady := false, wbReady := false, rbReady := false, calFail := false }

/-- The machine at start (10_state.md R55, 70_reset_and_hazards.md R260): `pc`, `intMd` and `GIE` are 0 (the spec's decisions
D1, D2). DESIGN CHOICE, unsafe, where the spec gives no value: registers, `H` and flags are 0 (log entry 3), the core is
core 11 (entry 1), the devices as `Devices.reset`. `NOT_MODE` and `ADDR_DECODE` have the spec's defaults; the two parameters
without a default are free values (entry 2). Nothing is loaded or written (entries 6, 7, 8). -/
def State.reset : State where
  coreId := 11
  params :=
    { notMode := .negate, mulSignedness := Config.mulSignedness, addrDecode := .refuse, bufAddr := Config.bufAddr }
  bank0 := Vector.replicate 16 0#32
  bank1 := Vector.replicate 16 0#32
  pc := 0#12
  flags := { n := false, z := false, c := false, v := false }
  h := 0#32
  intMd := false
  gie := false
  pmem := []
  dmem := []
  dev := Devices.reset
  oracle := { ioAnswers := [], irqAnswers := [], blockAnswers := [], draws := 0 }
  trace := []

end Sys2Proof.Machine
end

