-- ==== Sys2Proof/Machine/Flags.lean ====
section
/-! DEFINITION. Every flag computation of the spec (10_state.md R36) and the sixteen conditions (46_relative_branch.md R181). -/

namespace Sys2Proof.Machine

/-- N = bit 31 of the result (10_state.md R35). -/
def flagN (r : Word) : Bool := r.getLsbD 31

/-- Z = all 32 bits of the result are zero (10_state.md R35). -/
def flagZ (r : Word) : Bool := r == 0#32

/-- C after ADD: bit 32 of the exact sum (41_arith.md R130). -/
def addCarry (x y : Word) : Bool := (x.setWidth 33 + y.setWidth 33).getLsbD 32

/-- V after ADD: the operands agree in sign and the result does not (41_arith.md R130). -/
def addOverflow (x y : Word) : Bool :=
  x.getLsbD 31 == y.getLsbD 31 && (x + y).getLsbD 31 != x.getLsbD 31

/-- C after SUB: no borrow, u(x) >= u(y) (41_arith.md R131, D7). -/
def subCarry (x y : Word) : Bool := decide (y.toNat ≤ x.toNat)

/-- V after SUB: the operands differ in sign and the result is not of the sign of the first (41_arith.md R131). -/
def subOverflow (x y : Word) : Bool :=
  x.getLsbD 31 != y.getLsbD 31 && (x - y).getLsbD 31 != x.getLsbD 31

/-- C after ROR: bit 0 of the result (10_state.md R36, 43_lit_ror.md R151). -/
def rorCarry (r : Word) : Bool := r.getLsbD 0

/-- `f` with N and Z set from a result; C and V kept (40_logic.md R120, D8). -/
def withNZ (f : Flags) (r : Word) : Flags := { f with n := flagN r, z := flagZ r }

/-- The flags after ADD (41_arith.md R130). -/
def addFlags (x y : Word) : Flags :=
  { n := flagN (x + y), z := flagZ (x + y), c := addCarry x y, v := addOverflow x y }

/-- The flags after SUB (41_arith.md R131). -/
def subFlags (x y : Word) : Flags :=
  { n := flagN (x - y), z := flagZ (x - y), c := subCarry x y, v := subOverflow x y }

/-- The flags after ROR with result `r`: N, Z, C; V kept (43_lit_ror.md R151). -/
def rorFlags (f : Flags) (r : Word) : Flags := { withNZ f r with c := rorCarry r }

/-- S = N xor V (46_relative_branch.md R181). -/
def flagS (f : Flags) : Bool := f.n != f.v

/-- Whether a condition holds (46_relative_branch.md R181). -/
def condHolds (c : Cond) (f : Flags) : Bool :=
  match c with
  | .eq => f.z
  | .neq => !f.z
  | .cs => f.c
  | .cc => !f.c
  | .n => f.n
  | .nn => !f.n
  | .v => f.v
  | .nv => !f.v
  | .hi => !(!f.c || f.z)
  | .ls => !f.c || f.z
  | .geq => !flagS f
  | .lss => flagS f
  | .gtr => !(flagS f || f.z)
  | .leq => flagS f || f.z
  | .always => true
  | .never => false

end Sys2Proof.Machine
end

