-- ==== Sys2Proof/Machine/Ops.lean ====
section
/-! DEFINITION. The named operations over memory, registers and the rest of the state; drawing free values; taking an
interrupt and returning from one; the fetch. -/

namespace Sys2Proof.Machine

/-! ## A memory of words: a list of (address, word) pairs, addresses strictly rising -/

/-- The word listed at an address, if one is. -/
def readCell {α : Type} (m : List (Nat × α)) (a : Nat) : Option α :=
  match m with
  | [] => none
  | (b, v) :: rest => if a = b then some v else readCell rest a

/-- The memory with the word at an address replaced or, if none is listed there, listed. -/
def writeCell {α : Type} (m : List (Nat × α)) (a : Nat) (v : α) : List (Nat × α) :=
  match m with
  | [] => [(a, v)]
  | (b, w) :: rest =>
    if a < b then (a, v) :: (b, w) :: rest
    else if a = b then (a, v) :: rest
    else (b, w) :: writeCell rest a v

/-- Addresses rise strictly and lie in `lo ≤ · < hi`. -/
def cellsWithin {α : Type} (lo hi : Nat) (m : List (Nat × α)) : Bool :=
  match m with
  | [] => true
  | (a, _) :: rest => decide (lo ≤ a) && decide (a < hi) && cellsWithin (a + 1) hi rest

/-- The one canonical form of a memory of `size` words: addresses strictly rising and below `size`. An unlisted word is one
nothing has loaded or written, so that no listed entry is redundant (log entries 6 and 7). -/
def Memory.wf {α : Type} (size : Nat) (m : List (Nat × α)) : Bool := cellsWithin 0 size m

/-- The data word at an address (10_state.md R46): the word written last, or the unspecified initial word (R55, U18). -/
def dmemRead (m : List (Nat × Word)) (a : BitVec 11) : Word :=
  (readCell m a.toNat).getD (Config.initDMem a.toNat)

/-- Data memory with one word written (20_memory.md R65). -/
def dmemWrite (m : List (Nat × Word)) (a : BitVec 11) (v : Word) : List (Nat × Word) :=
  writeCell m a.toNat v

/-! ## Registers -/

/-- A register of a bank. -/
def bankGet (b : Vector Word 16) (i : RegNo) : Word := b[i.toNat]'i.isLt

/-- A bank with one register replaced. -/
def bankSet (b : Vector Word 16) (i : RegNo) (v : Word) : Vector Word 16 := b.set i.toNat v i.isLt

/-- `RF[k][i]`, `k` = true for bank 1 (10_state.md R22). -/
def State.rf (s : State) (k : Bool) (i : RegNo) : Word :=
  match k with
  | false => bankGet s.bank0 i
  | true => bankGet s.bank1 i

/-- `RF[k][i] <- v` (10_state.md R22): no register is hard-wired (R21). -/
def State.setRf (s : State) (k : Bool) (i : RegNo) (v : Word) : State :=
  match k with
  | false => { s with bank0 := bankSet s.bank0 i v }
  | true => { s with bank1 := bankSet s.bank1 i v }

/-- `x[i]`, register `i` of the current bank (00_scope.md R9, 10_state.md R22). -/
def State.x (s : State) (i : RegNo) : Word := s.rf s.intMd i

/-- `x[i] <- v` (00_scope.md R9). -/
def State.setX (s : State) (i : RegNo) (v : Word) : State := s.setRf s.intMd i v

/-! ## The other pieces of state, one update each -/

/-- `pc <- t`. -/
def State.setPc (s : State) (t : PAddr) : State := { s with pc := t }

/-- `pc <- pc + 1` modulo 4096 (10_state.md R31). -/
def State.advance (s : State) : State := { s with pc := s.pc + 1#12 }

/-- The four flags replaced. -/
def State.setFlags (s : State) (f : Flags) : State := { s with flags := f }

/-- `H <- v`. -/
def State.setH (s : State) (v : Word) : State := { s with h := v }

/-- `intMd` and `GIE` replaced. -/
def State.setMode (s : State) (bank enable : Bool) : State := { s with intMd := bank, gie := enable }

/-- One word of data memory written. -/
def State.storeWord (s : State) (a : BitVec 11) (v : Word) : State := { s with dmem := dmemWrite s.dmem a v }

/-- The devices replaced. -/
def State.setDev (s : State) (d : Devices) : State := { s with dev := d }

/-- The oracle replaced. -/
def State.setOracle (s : State) (o : Oracle) : State := { s with oracle := o }

/-- An I/O access noted at the end of the trace. -/
def State.note (s : State) (e : IoEvent) : State := { s with trace := s.trace ++ [e] }

/-! ## Free values and answers from outside -/

/-- The oracle after one free value was drawn. -/
def Oracle.drawn (o : Oracle) : Oracle := { o with draws := o.draws + 1 }

/-- The free value that the next `draw(w)` gives (00_scope.md R9). -/
def State.freeBits (s : State) (w : Nat) : BitVec w := Config.draw w s.oracle.draws

/-- The state after a free value was drawn. -/
def State.drawn (s : State) : State := s.setOracle s.oracle.drawn

/-- The answer of the devices to the next port read, an `IO_ORACLE` answer (00_scope.md R6, 20_memory.md R82). -/
def State.ioAnswer (s : State) : Word :=
  match s.oracle.ioAnswers with
  | [] => s.freeBits 32
  | v :: _ => v

/-- The state after that answer was given. -/
def State.ioAnswered (s : State) : State :=
  match s.oracle.ioAnswers with
  | [] => s.drawn
  | _ :: rest => s.setOracle { s.oracle with ioAnswers := rest }

/-- The four bits of an answer at an instruction boundary. -/
def irqAnswerOf (b : BitVec 4) : IrqAnswer :=
  { msgInput := b.getLsbD 0, msgOutput := b.getLsbD 1, rs232 := b.getLsbD 2, enterNow := b.getLsbD 3 }

/-- The answer at the next instruction boundary with `GIE` = 1 (60_exceptions.md R209). -/
def State.irqAnswer (s : State) : IrqAnswer :=
  match s.oracle.irqAnswers with
  | [] => irqAnswerOf (s.freeBits 4)
  | a :: _ => a

/-- The state after that answer was given. -/
def State.irqAnswered (s : State) : State :=
  match s.oracle.irqAnswers with
  | [] => s.drawn
  | _ :: rest => s.setOracle { s.oracle with irqAnswers := rest }

/-- N and Z made free values, C and V kept: what LD, BL and BLR leave (10_state.md R36, D9, U9). -/
def State.freeNZ (s : State) : State :=
  let n := s.freeBits 1
  let s1 := s.drawn
  let z := s1.freeBits 1
  s1.drawn.setFlags { s.flags with n := n.getLsbD 0, z := z.getLsbD 0 }

/-! ## Interrupts: the only exceptions of the machine (60_exceptions.md R200) -/

/-- The program address of a source's vector (60_exceptions.md R205, R207). -/
def vectorOf : IrqSource → PAddr
  | .msgInput => 2#12
  | .msgOutput => 3#12
  | .rs232 => 4#12

/-- The enable bit of a source, on a core that has the source (60_exceptions.md R205, R206). -/
def irqEnabled (s : State) : IrqSource → Bool
  | .msgInput => s.dev.netNode.enMsgIn
  | .msgOutput => s.dev.netNode.enOutEmpty
  | .rs232 => decide (s.coreId = 11) && s.dev.rs232.enRx

/-- The request line of a source under an answer from outside, before its gating. -/
def IrqAnswer.line (a : IrqAnswer) : IrqSource → Bool
  | .msgInput => a.msgInput
  | .msgOutput => a.msgOutput
  | .rs232 => a.rs232

/-- `req(k)`: 1 only if the source's enable bit is 1 and the core has the source (60_exceptions.md R209). -/
def irqRequest (s : State) (a : IrqAnswer) (k : IrqSource) : Bool := irqEnabled s k && a.line k

/-- The requesting source of the lowest vector number (60_exceptions.md R208). -/
def firstRequest (s : State) (a : IrqAnswer) : Option IrqSource :=
  if irqRequest s a .msgInput then some .msgInput
  else if irqRequest s a .msgOutput then some .msgOutput
  else if irqRequest s a .rs232 then some .rs232
  else none

/-- The source whose interrupt is taken at this instruction boundary, if one is (60_exceptions.md R209): none with `GIE` = 0;
with `GIE` = 1 and a request, whether now or later is the outside's choice. -/
def interruptNow (s : State) : Option IrqSource :=
  if s.gie then
    match firstRequest s s.irqAnswer with
    | none => none
    | some k => if s.irqAnswer.enterNow then some k else none
  else none

/-- The state after the boundary's question to the outside; with `GIE` = 0 none is asked. -/
def atBoundary (s : State) : State := if s.gie then s.irqAnswered else s

/-- The word saved at interrupt entry (60_exceptions.md R211): N, Z, C, V, sixteen bits not stated, the pended address. -/
def savedWord (f : Flags) (middle : BitVec 16) (p : PAddr) : Word :=
  BitVec.ofBool f.n ++ BitVec.ofBool f.z ++ BitVec.ofBool f.c ++ BitVec.ofBool f.v ++ middle ++ p

/-- TAKING AN INTERRUPT: `interrupt_entry(k)` (60_exceptions.md R210). The flags and the pended address are saved in
`RF[1][15]`, `intMd` becomes 1, `GIE` 0, and the pc goes to the vector. Nothing else changes. -/
def interruptEntry (k : IrqSource) (s : State) : State :=
  ((s.drawn.setRf true 15#4 (savedWord s.flags (s.freeBits 16) s.pc)).setMode true false).setPc (vectorOf k)

/-- The flags held in bits 31:28 of a saved word (60_exceptions.md R211). -/
def savedFlags (v : Word) : Flags :=
  { n := v.getLsbD 31, z := v.getLsbD 30, c := v.getLsbD 29, v := v.getLsbD 28 }

/-- RETURNING FROM AN INTERRUPT through `RF[1][a]` (60_exceptions.md R212, 44_register_branch.md R163): `pc` from bits 11:0,
the flags from bits 31:28, `intMd` 0, `GIE` 1. -/
def interruptReturn (a : RegNo) (s : State) : State :=
  ((s.setPc ((s.rf true a).setWidth 12)).setFlags (savedFlags (s.rf true a))).setMode false true

/-! ## Fetch -/

/-- `PMem[pc]` (20_memory.md R76), if an image gives it. -/
def fetch (s : State) : Option Code := readCell s.pmem s.pc.toNat

end Sys2Proof.Machine
end

