-- ==== Sys2Proof/Machine/Operands.lean ====
section
/-! DEFINITION. Every operand form (30_encoding.md R95 to R99) and the shared shapes of the instructions over them. -/

namespace Sys2Proof.Machine

/-- The second operand of the register format (30_encoding.md R92, R95). -/
inductive Operand where
  /-- IR[5] = 0: the 5-bit literal. -/
  | lit (n : BitVec 5)
  /-- IR[5] = 1: register `a` of the current bank. -/
  | reg (a : RegNo)
  deriving DecidableEq, Repr

/-- `A`: the zero-extended literal or the register (30_encoding.md R95, R96). -/
def operandA (s : State) (o : Operand) : Word :=
  match o with
  | .lit n => n.setWidth 32
  | .reg a => s.x a

/-- The 10-bit literal of LIT, zero-extended (30_encoding.md R97). -/
def literal10 (n : BitVec 10) : Word := n.setWidth 32

/-- The effective address of LD and ST, modulo 2^32 (20_memory.md R61). -/
def effectiveAddress (s : State) (b : RegNo) (o : Operand) : Word := s.x b + operandA s o

/-- `ror32(x, k)`, 0 ≤ k ≤ 31 (00_scope.md R8). -/
def ror32 (x : Word) (k : Nat) : Word := (x >>> k) ||| (x <<< (32 - k))

/-- The rotate amount: the low five bits of the operand (43_lit_ror.md R151, D10). -/
def rotateAmount (y : Word) : Nat := (y.extractLsb' 0 5).toNat

/-- The target of a taken Bc: `pc + 1` plus the signed offset, modulo 4096 (30_encoding.md R98, 46_relative_branch.md R180). -/
def bcTarget (p : PAddr) (off : BitVec 10) : PAddr := p + 1#12 + off.signExtend 12

/-- The target of BL: `pc + 1` plus IR[11:0], modulo 4096 (30_encoding.md R99, 46_relative_branch.md R182). -/
def blTarget (p : PAddr) (off : BitVec 14) : PAddr := p + 1#12 + off.setWidth 12

/-- The link value: `pc + 1` modulo 4096, zero-extended (10_state.md R32, D5). -/
def linkValue (p : PAddr) : Word := (p + 1#12).setWidth 32

/-- A register value as a branch target: its low 12 bits (10_state.md R31, D6). -/
def targetOf (v : Word) : PAddr := v.setWidth 12

/-- A register instruction that sets N and Z only (40_logic.md R120): result to `x[d]`, N and Z from it, `pc` advanced. -/
def writeResult (d : RegNo) (r : Word) (s : State) : State :=
  ((s.setX d r).setFlags (withNZ s.flags r)).advance

/-- A register instruction that writes the flags `f`. -/
def writeResultFlags (d : RegNo) (r : Word) (f : Flags) (s : State) : State :=
  ((s.setX d r).setFlags f).advance

/-- The 64-bit product of two factors under a reading of their sign (41_arith.md R134). -/
def product (m : MulSignedness) (x y : Word) : BitVec 64 :=
  match m with
  | .signed => x.signExtend 64 * y.signExtend 64
  | .unsigned => x.setWidth 64 * y.setWidth 64

/-- The high half of the product. Only a factor with bit 31 set makes the two readings differ (41_arith.md R134), so that
the parameter is asked for then alone; Laws/Ops.lean proves this to be `(product m x y)[63:32]` in every case. -/
def productHigh (m : MulSignedness) (x y : Word) : Word :=
  if x.getLsbD 31 || y.getLsbD 31 then (product m x y).extractLsb' 32 32
  else (product .unsigned x y).extractLsb' 32 32

/-- What the NOT forms compute from their operand (42_not_ldh_ldc.md R140). -/
def notResult (m : NotMode) (y : Word) : Word :=
  match m with
  | .negate => 0#32 - y
  | .complement => ~~~y

/-- Bc on a condition's truth (46_relative_branch.md R180): no register and no flag is written. -/
def branchIf (taken : Bool) (off : BitVec 10) (s : State) : State :=
  if taken then s.setPc (bcTarget s.pc off) else s.advance

end Sys2Proof.Machine
end

