-- ==== Sys2Proof/Machine/Arith.lean ====
section
/-! DEFINITION. ADD, SUB, MUL (41_arith.md R130 to R135). -/

namespace Sys2Proof.Machine

/-- ADD (41_arith.md R130): N, Z, C, V written. -/
def addOp (d b : RegNo) (o : Operand) (s : State) : State :=
  writeResultFlags d (s.x b + operandA s o) (addFlags (s.x b) (operandA s o)) s

/-- `ADD Rd Rb n` (R130). -/
def execAddRL (d b : RegNo) (n : BitVec 5) (s : State) : Result := .next (addOp d b (.lit n) s)

/-- `ADD Rd Rb Ra` (R130). -/
def execAddRR (d b a : RegNo) (s : State) : Result := .next (addOp d b (.reg a) s)

/-- SUB (41_arith.md R131): N, Z, C, V written. -/
def subOp (d b : RegNo) (o : Operand) (s : State) : State :=
  writeResultFlags d (s.x b - operandA s o) (subFlags (s.x b) (operandA s o)) s

/-- `SUB Rd Rb n` (R131). -/
def execSubRL (d b : RegNo) (n : BitVec 5) (s : State) : Result := .next (subOp d b (.lit n) s)

/-- `SUB Rd Rb Ra` (R131). -/
def execSubRR (d b a : RegNo) (s : State) : Result := .next (subOp d b (.reg a) s)

/-- MUL (41_arith.md R134): the low half of the product to `x[d]`, the high half to `H`, no flag written. -/
def mulOp (d b : RegNo) (o : Operand) (s : State) : State :=
  ((s.setX d (s.x b * operandA s o)).setH (productHigh s.params.mulSignedness (s.x b) (operandA s o))).advance

/-- `MUL Rd Rb n` (R134). -/
def execMulRL (d b : RegNo) (n : BitVec 5) (s : State) : Result := .next (mulOp d b (.lit n) s)

/-- `MUL Rd Rb Ra` (R134). -/
def execMulRR (d b a : RegNo) (s : State) : Result := .next (mulOp d b (.reg a) s)

end Sys2Proof.Machine
end

