-- ==== Sys2Proof/Machine/LitRor.lean ====
section
/-! DEFINITION. LIT and ROR (43_lit_ror.md R150, R151). -/

namespace Sys2Proof.Machine

/-- `LIT Rd n` (43_lit_ror.md R150): the zero-extended literal to `x[d]`, N and Z written. -/
def execLit (d : RegNo) (n : BitVec 10) (s : State) : Result := .next (writeResult d (literal10 n) s)

/-- ROR (43_lit_ror.md R151): rotation by the low five bits of the operand; N, Z and C from the result, V kept. -/
def rorOp (d b : RegNo) (o : Operand) (s : State) : State :=
  let r := ror32 (s.x b) (rotateAmount (operandA s o))
  writeResultFlags d r (rorFlags s.flags r) s

/-- `ROR Rd Rb n` (R151). -/
def execRorRL (d b : RegNo) (n : BitVec 5) (s : State) : Result := .next (rorOp d b (.lit n) s)

/-- `ROR Rd Rb Ra` (R151). -/
def execRorRR (d b a : RegNo) (s : State) : Result := .next (rorOp d b (.reg a) s)

end Sys2Proof.Machine
end

