-- ==== Sys2Proof/Machine/Ports.lean ====
section
/-! DEFINITION. The data side: classification of addresses (20_memory.md R62 to R66), the I/O ports and the devices behind
them (R67 to R75, 60_exceptions.md R224 to R244), `MemRead` and `MemWrite`. -/

namespace Sys2Proof.Machine

/-! ## Addresses -/

/-- Where a data address leads (20_memory.md R62). -/
inductive Location where
  | dmem (a : BitVec 11)
  | io (p : PortNo)
  | undecoded
  deriving DecidableEq, Repr

/-- The class of an effective address (20_memory.md R62, R63), and under `ADDR_DECODE` = `alias` of an undecoded one (R66). -/
def classify (m : AddrDecode) (ea : Word) : Location :=
  if ea.extractLsb' 12 20 = 0#20 ∧ ea.extractLsb' 8 4 = 0b1111#4 then .io (ea.extractLsb' 0 5)
  else if ea.extractLsb' 11 21 = 0#21 then .dmem (ea.extractLsb' 0 11)
  else
    match m with
    | .refuse => .undecoded
    | .aliased => if ea.extractLsb' 8 4 = 0b1111#4 then .io (ea.extractLsb' 0 5) else .dmem (ea.extractLsb' 0 11)

/-! ## The port map -/

/-- The registers of Table 1 (20_memory.md R69), by their port numbers 2 to 12 and 14. -/
inductive Port where
  | netData
  | netCommand
  | rsData
  | rsCommand
  | timerData
  | timerCommand
  | lcdData
  | lcdCommand
  | ddrData
  | ddrCommand
  | ledData
  | switchInput
  deriving DecidableEq, Repr

/-- The documented register with a port number (20_memory.md R69); 0, 1, 13, 15 and above have none (R70). -/
def portNamed (p : PortNo) : Option Port :=
  match p.toNat with
  | 2 => some .netData
  | 3 => some .netCommand
  | 4 => some .rsData
  | 5 => some .rsCommand
  | 6 => some .timerData
  | 7 => some .timerCommand
  | 8 => some .lcdData
  | 9 => some .lcdCommand
  | 10 => some .ddrData
  | 11 => some .ddrCommand
  | 12 => some .ledData
  | 14 => some .switchInput
  | _ => none

/-- Which core has a port (20_memory.md R71): every core its netNode, core 6 the DDR2 controller, core 11 the rest (the
switches by D16). -/
def corePort (core : Fin 12) (q : Port) : Bool :=
  match q with
  | .netData | .netCommand => true
  | .ddrData | .ddrCommand => decide (core = 6)
  | .rsData | .rsCommand | .timerData | .timerCommand | .lcdData | .lcdCommand | .ledData | .switchInput => decide (core = 11)

/-- The register a port number reaches on a core, if there is one (20_memory.md R68, R70, R71). -/
def portOf (core : Fin 12) (p : PortNo) : Option Port :=
  match portNamed p with
  | none => none
  | some q => if corePort core q then some q else none

/-! ## Vectors of words inside a device -/

/-- `k` words cut from a bit vector, word 0 lowest: how a free value fills a buffer. -/
def wordsOf (k : Nat) {w : Nat} (b : BitVec w) : Vector Word k := Vector.ofFn fun i => b.extractLsb' (32 * i.val) 32

/-! ## netNode (60_exceptions.md R225 to R230) -/

/-- The output buffer address register set, and with it the input one where the netNode has one register for both (R227). -/
def NetNode.setOutAddr (n : NetNode) (m : BufAddr) (a : BitVec 6) : NetNode :=
  match m with
  | .shared => { n with outAddr := a, inAddr := a }
  | .separate => { n with outAddr := a }

/-- The input buffer address register set, likewise (R227). -/
def NetNode.setInAddr (n : NetNode) (m : BufAddr) (a : BitVec 6) : NetNode :=
  match m with
  | .shared => { n with outAddr := a, inAddr := a }
  | .separate => { n with inAddr := a }

/-- Whether a write of the data register is one R227 describes: the output buffer was seen empty and the address register is
inside the buffer. Any other has a free effect on the device (93_implementation_defined.md U12). -/
def NetNode.canAppend (n : NetNode) : Bool := n.outFree && decide (n.outAddr.toNat < 32)

/-- Whether a read of the data register is one R227 describes: a message was seen in the input buffer and the address
register is inside the buffer (U12). -/
def NetNode.canTake (n : NetNode) : Bool := n.inReady && decide (n.inAddr.toNat < 32)

/-- A word appended to the output buffer at the address register, which increases by 1 (R227). -/
def NetNode.append (n : NetNode) (m : BufAddr) (v : Word) : NetNode :=
  { n with outBuf := n.outBuf.setIfInBounds n.outAddr.toNat v }.setOutAddr m (n.outAddr + 1#6)

/-- The word delivered from the input buffer at the address register, which increases by 1 (R227). The buffer's words come
from the network: the answer is what the buffer holds there. -/
def NetNode.take (n : NetNode) (m : BufAddr) (v : Word) : NetNode :=
  { n with inBuf := n.inBuf.setIfInBounds n.inAddr.toNat v }.setInAddr m (n.inAddr + 1#6)

/-- Output buffer and its address register free: a write against the protocol (U12). DESIGN CHOICE: U12 leaves the whole device
effect free, and the model confines it to these (log entry 20). -/
def NetNode.scrambleOut (n : NetNode) (m : BufAddr) (free : BitVec 1030) : NetNode :=
  { n with outBuf := wordsOf 32 free }.setOutAddr m (free.extractLsb' 1024 6)

/-- Input buffer and its address register free: a read against the protocol (U12). DESIGN CHOICE: confined to these (log
entry 20). -/
def NetNode.scrambleIn (n : NetNode) (m : BufAddr) (free : BitVec 1030) : NetNode :=
  { n with inBuf := wordsOf 32 free }.setInAddr m (free.extractLsb' 1024 6)

/-- A write of the command register (R226): bit 1 hands the message over, bit 2 clears the buffer address register(s),
bits 4 and 5 are the interrupt enables. No effect is attached to the other bits (U3, log entry 20). -/
def NetNode.command (n : NetNode) (v : Word) : NetNode :=
  { n with
    outFree := n.outFree && !v.getLsbD 1
    outAddr := if v.getLsbD 2 then 0#6 else n.outAddr
    inAddr := if v.getLsbD 2 then 0#6 else n.inAddr
    enMsgIn := v.getLsbD 4
    enOutEmpty := v.getLsbD 5 }

/-- The value of a read of the command register whose undescribed and status bits are `w` (R226): the enables hold what the
program wrote, bits 15:8 are the id. -/
def NetNode.status (n : NetNode) (w : Word) : Word :=
  w.extractLsb' 16 16 ++ n.id ++ w.extractLsb' 6 2 ++ BitVec.ofBool n.enOutEmpty ++ BitVec.ofBool n.enMsgIn ++ w.extractLsb' 0 4

/-- What a read of the command register lets the program know (R226 bits 0 and 1). -/
def NetNode.observe (n : NetNode) (w : Word) : NetNode :=
  { n with inReady := w.getLsbD 0, outFree := !w.getLsbD 1 }

/-- The four bytes of a message header: type, length, source core, destination core (60_exceptions.md R228). -/
def messageHeader (type len source dest : BitVec 8) : Word := type ++ len ++ source ++ dest

/-! ## RS232 (60_exceptions.md R232 to R234) -/

/-- A read of the data register after a byte was seen ready delivers it, and it stays until it is cleared (R232). That the next
byte may take its place meanwhile is the answer's matter (log entry 21). -/
def Rs232.take (r : Rs232) (w : Word) : Rs232 := { r with rxBuf := some (w.extractLsb' 0 8) }

/-- Receive buffer free, a byte in it or none: a read of the data register with no byte seen ready (U12). DESIGN CHOICE: U12 leaves
the whole device effect free, and the model confines it to this buffer (log entry 21). -/
def Rs232.scrambleRx (r : Rs232) (free : BitVec 9) : Rs232 :=
  { r with rxBuf := if free.getLsbD 8 then some (free.extractLsb' 0 8) else none }

/-- A write of the data register after the transmitter was seen ready hands it the low byte (R232). Against the protocol a free
byte is handed over, and DESIGN CHOICE: nothing else of the controller changes (U12, log entry 21). -/
def Rs232.transmit (r : Rs232) (b : BitVec 8) : Rs232 := { r with txByte := b, txReady := false }

/-- A write of the command register (R233): bit 2 clears the data buffer, so that no byte is ready, and bit 3 is the interrupt
enable. DESIGN CHOICE: no other bit has an effect (log entry 21). -/
def Rs232.command (r : Rs232) (v : Word) : Rs232 :=
  { r with
    rxReady := r.rxReady && !v.getLsbD 2
    rxBuf := if v.getLsbD 2 then none else r.rxBuf
    enRx := v.getLsbD 3 }

/-- The value of a read of the command register whose undescribed and status bits are `w` (R233). -/
def Rs232.status (r : Rs232) (w : Word) : Word := w.extractLsb' 4 28 ++ BitVec.ofBool r.enRx ++ w.extractLsb' 0 3

/-- What a read of the command register lets the program know (R233 bits 0 and 1). -/
def Rs232.observe (r : Rs232) (w : Word) : Rs232 :=
  { r with rxReady := w.getLsbD 0, rxBuf := if w.getLsbD 0 then r.rxBuf else none, txReady := w.getLsbD 1 }

/-! ## DDR2 (60_exceptions.md R240 to R243) -/

/-- A word of the block being written, at the word index, which advances modulo 8 (R242). The eighth word completes the
block, which goes to WB; the next block needs a new look at bit 29 (R243). -/
def Ddr2.put (d : Ddr2) (v : Word) : Ddr2 :=
  let buf := d.writeBuf.setIfInBounds d.index.toNat v
  { d with
    writeBuf := buf
    index := d.index + 1#3
    wb := if d.index = 7#3 then d.wb ++ [buf] else d.wb
    wbReady := d.wbReady && decide (d.index ≠ 7#3) }

/-- The word of the read block buffer at the word index (R242). -/
def Ddr2.word (d : Ddr2) : Word := d.readBuf[d.index.toNat]'d.index.isLt

/-- A read of that word: the word index advances modulo 8 (R242). The eighth word uses the block up (log entry 23). -/
def Ddr2.get (d : Ddr2) : Ddr2 :=
  { d with index := d.index + 1#3, rbReady := d.rbReady && decide (d.index ≠ 7#3) }

/-- A command: block address and direction go to AF and the word index is reset (R241). -/
def Ddr2.command (d : Ddr2) (v : Word) : Ddr2 :=
  { d with af := d.af ++ [{ block := v.extractLsb' 0 23, read := v.getLsbD 23 }], afReady := false, index := 0#3 }

/-- How many of the `k` oldest commands of AF read a block (R241 bit 23): so many blocks come into RB when they are carried out. -/
def Ddr2.readsAmong (d : Ddr2) (k : Nat) : Nat := ((d.af.take k).filter (·.read)).length

/-- How many blocks have come into RB at a status answer `w` when the controller took `k` commands: one for each read, or one that
is not accounted for, where bit 30 announces a block and no other can be meant (log entry 23). -/
def Ddr2.arrivals (d : Ddr2) (w : Word) (k : Nat) : Nat :=
  if w.getLsbD 30 && !d.rbReady && d.rb.isEmpty && decide (d.readsAmong k = 0) then 1 else d.readsAmong k

/-- Whether the oldest block of RB has come into the read block buffer at a status answer `w`: if bit 30 is 1 and no block stood
there; and where one stood there that was not used up and another is in RB, `free` says (log entry 23). -/
def Ddr2.refilled (d : Ddr2) (w : Word) (k : Nat) (free : Bool) : Bool :=
  w.getLsbD 30 && (!d.rbReady || (free && (!d.rb.isEmpty || decide (0 < d.readsAmong k))))

/-- What a read of the command register lets the program know (R241 bits 31:28). Meanwhile the controller took `k` commands from
AF and `m` blocks from WB and put the blocks given into RB, the oldest of which moved to the read buffer if `next` says so.
DESIGN CHOICE: bit 31 (calibration fail) is recorded and changes nothing of what the interface does, its effect not being in the
sources (R243, N14; log entry 23). -/
def Ddr2.observe (d : Ddr2) (w : Word) (k m : Nat) (next : Bool) (blocks : List (Vector Word 8)) : Ddr2 :=
  { d with
    afReady := w.getLsbD 28
    wbReady := w.getLsbD 29
    rbReady := w.getLsbD 30
    calFail := w.getLsbD 31
    af := d.af.drop k
    wb := d.wb.drop m
    rb := if next then (d.rb ++ blocks).tail else d.rb ++ blocks
    readBuf := if next then (d.rb ++ blocks).headD d.readBuf else d.readBuf }

/-- Data written against the protocol: write buffer, word index and WB free. DESIGN CHOICE: U12 leaves the whole device effect
free, and the model confines it to these (log entry 23). -/
def Ddr2.scramblePut (d : Ddr2) (free : BitVec 259) (blocks : List (Vector Word 8)) : Ddr2 :=
  { d with writeBuf := wordsOf 8 free, index := free.extractLsb' 256 3, wb := blocks }

/-- Data read against the protocol (U12): read buffer, word index and RB free. DESIGN CHOICE: confined to these (log entry 23). -/
def Ddr2.scrambleGet (d : Ddr2) (free : BitVec 259) (blocks : List (Vector Word 8)) : Ddr2 :=
  { d with readBuf := wordsOf 8 free, index := free.extractLsb' 256 3, rb := blocks }

/-- A command written against the protocol (U12): AF and word index free. DESIGN CHOICE: confined to these (log entry 23). -/
def Ddr2.scrambleCommand (d : Ddr2) (free : BitVec 3) (commands : List DdrCommand) : Ddr2 :=
  { d with af := commands, index := free }

/-! ### The blocks that the memory gives -/

/-- The next block read out of the DDR2 memory: an answer from outside, the memory being out of scope (00_scope.md R4(b)). -/
def Oracle.block (o : Oracle) : Vector Word 8 :=
  match o.blockAnswers with
  | [] => wordsOf 8 (Config.draw 256 o.draws)
  | b :: _ => b

/-- The oracle after that block was given. -/
def Oracle.blockGiven (o : Oracle) : Oracle :=
  match o.blockAnswers with
  | [] => o.drawn
  | _ :: rest => { o with blockAnswers := rest }

/-- The next `n` blocks. -/
def Oracle.blocks (o : Oracle) : Nat → List (Vector Word 8)
  | 0 => []
  | n + 1 => o.block :: o.blockGiven.blocks n

/-- The oracle after `n` blocks were given. -/
def Oracle.blocksGiven (o : Oracle) : Nat → Oracle
  | 0 => o
  | n + 1 => o.blockGiven.blocksGiven n

/-- The interface and the oracle after the status was read as `w`: how many commands and blocks the controller took meanwhile is
free, and the blocks that came in are the next of the outside (log entry 23). -/
def Ddr2.observed (d : Ddr2) (o : Oracle) (w : Word) : Ddr2 × Oracle :=
  let a := d.af.length
  let b := d.wb.length
  let free := Config.draw (a + b + 1) o.draws
  let k := (free.extractLsb' 0 a).toNat
  let m := (free.extractLsb' a b).toNat
  let n := d.arrivals w k
  (d.observe w k m (d.refilled w k (free.getLsbD (a + b))) (o.drawn.blocks n), o.drawn.blocksGiven n)

/-! ## Timer, LCD, LEDs -/

/-- A write of the LCD command register (60_exceptions.md R237). DESIGN CHOICE: its bits 31:3 have no effect (log entry 22). -/
def Lcd.command (l : Lcd) (v : Word) : Lcd := { l with rw := v.getLsbD 0, rs := v.getLsbD 1, e := v.getLsbD 2 }

/-! ## One access of a port -/

/-- The state with another netNode. -/
def State.setNetNode (s : State) (n : NetNode) : State := s.setDev { s.dev with netNode := n }
/-- The state with another RS232 controller. -/
def State.setRs232 (s : State) (r : Rs232) : State := s.setDev { s.dev with rs232 := r }
/-- The state with another DDR2 interface. -/
def State.setDdr2 (s : State) (d : Ddr2) : State := s.setDev { s.dev with ddr2 := d }

/-- The state after the DDR2 status was read as `w`. -/
def State.ddrObserved (s : State) (w : Word) : State :=
  (s.setOracle (s.dev.ddr2.observed s.oracle w).2).setDdr2 (s.dev.ddr2.observed s.oracle w).1

/-- The value a port presents when the answer from outside is `w` (60_exceptions.md R224): of a register with described
held bits, those; of the DDR2 data register with a block seen ready, the word that R242 names; every other bit is the outside's
(U12, U13, U14). -/
def portValue (d : Devices) (q : Port) (w : Word) : Word :=
  match q with
  | .netCommand => d.netNode.status w
  | .rsCommand => d.rs232.status w
  | .ddrData => if d.ddr2.rbReady then d.ddr2.word else w
  | .netData | .rsData | .timerData | .timerCommand | .lcdData | .lcdCommand | .ddrCommand | .ledData | .switchInput => w

/-- What a read that presents `w` does to the device (20_memory.md R75). -/
def portReadEffect (q : Port) (w : Word) (s : State) : State :=
  match q with
  | .netData =>
    if s.dev.netNode.canTake then s.setNetNode (s.dev.netNode.take s.params.bufAddr w)
    else s.drawn.setNetNode (s.dev.netNode.scrambleIn s.params.bufAddr (s.freeBits 1030))
  | .netCommand => s.setNetNode (s.dev.netNode.observe w)
  | .rsData =>
    if s.dev.rs232.rxReady then s.setRs232 (s.dev.rs232.take w)
    else s.drawn.setRs232 (s.dev.rs232.scrambleRx (s.freeBits 9))
  | .rsCommand => s.setRs232 (s.dev.rs232.observe w)
  | .timerData => s.setDev { s.dev with timer := w }
  | .timerCommand => s
  | .lcdData => s
  | .lcdCommand => s
  | .ddrData =>
    if s.dev.ddr2.rbReady then s.setDdr2 s.dev.ddr2.get
    else s.drawn.setDdr2 (s.dev.ddr2.scrambleGet (s.freeBits 259) (Config.ddrBlocks s.oracle.draws))
  | .ddrCommand => s.ddrObserved w
  | .ledData => s
  | .switchInput => s.setDev { s.dev with switches := w.extractLsb' 0 8 }

/-- What a write of `v` does to the device (60_exceptions.md R226 to R242). DESIGN CHOICE: bits of a command register of which
the rules describe no effect when written have none (netNode: log entry 20, RS232: 21, Timer 31:1 and LCD 31:3: 22, DDR2: 23). -/
def portWriteEffect (q : Port) (v : Word) (s : State) : State :=
  match q with
  | .netData =>
    if s.dev.netNode.canAppend then s.setNetNode (s.dev.netNode.append s.params.bufAddr v)
    else s.drawn.setNetNode (s.dev.netNode.scrambleOut s.params.bufAddr (s.freeBits 1030))
  | .netCommand => s.setNetNode (s.dev.netNode.command v)
  | .rsData =>
    if s.dev.rs232.txReady then s.setRs232 (s.dev.rs232.transmit (v.extractLsb' 0 8))
    else s.drawn.setRs232 (s.dev.rs232.transmit (s.freeBits 8))
  | .rsCommand => s.setRs232 (s.dev.rs232.command v)
  | .timerData => s.drawn.setDev { s.dev with timer := s.freeBits 32 }
  | .timerCommand => s.setDev { s.dev with timer := if v.getLsbD 0 then 0#32 else s.dev.timer }
  | .lcdData => s.setDev { s.dev with lcd := { s.dev.lcd with data := v } }
  | .lcdCommand => s.setDev { s.dev with lcd := s.dev.lcd.command v }
  | .ddrData =>
    if s.dev.ddr2.wbReady then s.setDdr2 (s.dev.ddr2.put v)
    else s.drawn.setDdr2 (s.dev.ddr2.scramblePut (s.freeBits 259) (Config.ddrBlocks s.oracle.draws))
  | .ddrCommand =>
    if s.dev.ddr2.afReady then s.setDdr2 (s.dev.ddr2.command v)
    else s.drawn.setDdr2 (s.dev.ddr2.scrambleCommand (s.freeBits 3) (Config.ddrCommands s.oracle.draws))
  | .ledData => s.setDev { s.dev with leds := v.extractLsb' 0 8 }
  | .switchInput => s

/-- The value of `IoRead(p)` at a register (20_memory.md R68): the oracle's answer where the device's held bits leave it. -/
def ioReadValue (q : Port) (s : State) : Word := portValue s.dev q s.ioAnswer

/-- The state after `IoRead(p)`: the answer given, the device's own change, the access in the trace (20_memory.md R68, R75). -/
def ioReadState (p : PortNo) (q : Port) (s : State) : State :=
  (portReadEffect q (ioReadValue q s) s.ioAnswered).note (.read p (ioReadValue q s))

/-- The state after `IoWrite(p, v)` (20_memory.md R68, R75). -/
def ioWriteState (p : PortNo) (q : Port) (v : Word) (s : State) : State :=
  (portWriteEffect q v s).note (.write p v)

/-! ## MemRead and MemWrite -/

/-- `MemRead(EA, 32)`: the word read and the state after (20_memory.md R64, R66, R68). -/
def memRead (ea : Word) (s : State) : Except Refusal (Word × State) :=
  match classify s.params.addrDecode ea with
  | .dmem a => .ok (dmemRead s.dmem a, s)
  | .io p =>
    match portOf s.coreId p with
    | none => .error .noSuchPort
    | some q => .ok (ioReadValue q s, ioReadState p q s)
  | .undecoded => .error .undecodedAddress

/-- `MemWrite(EA, 32, v)`: the state after (20_memory.md R65, R66, R68). -/
def memWrite (ea : Word) (v : Word) (s : State) : Except Refusal State :=
  match classify s.params.addrDecode ea with
  | .dmem a => .ok (s.storeWord a v)
  | .io p =>
    match portOf s.coreId p with
    | none => .error .noSuchPort
    | some q => .ok (ioWriteState p q v s)
  | .undecoded => .error .undecodedAddress

end Sys2Proof.Machine
end

