-- ==== Sys2Proof/Machine/LoadStore.lean ====
section
/-! DEFINITION. LD and ST (45_load_store.md R170 to R172). -/

namespace Sys2Proof.Machine

/-- LD (45_load_store.md R170): the word at the effective address to `x[d]`; N and Z become free values (D9). -/
def loadOp (d b : RegNo) (o : Operand) (s : State) : Result :=
  match memRead (effectiveAddress s b o) s with
  | .ok (v, s1) => .next ((s1.setX d v).freeNZ.advance)
  | .error r => .refused r

/-- `LD Rd Rb n` (R170). -/
def execLdRL (d b : RegNo) (n : BitVec 5) (s : State) : Result := loadOp d b (.lit n) s

/-- `LD Rd Rb Ra` (R170). -/
def execLdRR (d b a : RegNo) (s : State) : Result := loadOp d b (.reg a) s

/-- ST (45_load_store.md R171): `x[d]` to the word at the effective address; no register and no flag is written. -/
def storeOp (d b : RegNo) (o : Operand) (s : State) : Result :=
  match memWrite (effectiveAddress s b o) (s.x d) s with
  | .ok s1 => .next s1.advance
  | .error r => .refused r

/-- `ST Rd Rb n` (R171). -/
def execStRL (d b : RegNo) (n : BitVec 5) (s : State) : Result := storeOp d b (.lit n) s

/-- `ST Rd Rb Ra` (R171). -/
def execStRR (d b a : RegNo) (s : State) : Result := storeOp d b (.reg a) s

end Sys2Proof.Machine
end

