-- ==== Sys2Proof/Machine/Logic.lean ====
section
/-! DEFINITION. AND, BIC, OR, XOR (40_logic.md R120 to R124). -/

namespace Sys2Proof.Machine

/-- AND, bitwise and (40_logic.md R121); N and Z from the result, C and V kept. -/
def andOp (d b : RegNo) (o : Operand) (s : State) : State := writeResult d (s.x b &&& operandA s o) s

/-- `AND Rd Rb n` (R121). -/
def execAndRL (d b : RegNo) (n : BitVec 5) (s : State) : Result := .next (andOp d b (.lit n) s)

/-- `AND Rd Rb Ra` (R121). -/
def execAndRR (d b a : RegNo) (s : State) : Result := .next (andOp d b (.reg a) s)

/-- BIC, and with the complement of the operand (40_logic.md R122); N and Z from the result, C and V kept. -/
def bicOp (d b : RegNo) (o : Operand) (s : State) : State := writeResult d (s.x b &&& ~~~(operandA s o)) s

/-- `BIC Rd Rb n` (R122). -/
def execBicRL (d b : RegNo) (n : BitVec 5) (s : State) : Result := .next (bicOp d b (.lit n) s)

/-- `BIC Rd Rb Ra` (R122). -/
def execBicRR (d b a : RegNo) (s : State) : Result := .next (bicOp d b (.reg a) s)

/-- OR, bitwise or (40_logic.md R123); N and Z from the result, C and V kept. -/
def orOp (d b : RegNo) (o : Operand) (s : State) : State := writeResult d (s.x b ||| operandA s o) s

/-- `OR Rd Rb n` (R123). -/
def execOrRL (d b : RegNo) (n : BitVec 5) (s : State) : Result := .next (orOp d b (.lit n) s)

/-- `OR Rd Rb Ra` (R123). -/
def execOrRR (d b a : RegNo) (s : State) : Result := .next (orOp d b (.reg a) s)

/-- XOR, bitwise exclusive or (40_logic.md R124); N and Z from the result, C and V kept. -/
def xorOp (d b : RegNo) (o : Operand) (s : State) : State := writeResult d (s.x b ^^^ operandA s o) s

/-- `XOR Rd Rb n` (R124). -/
def execXorRL (d b : RegNo) (n : BitVec 5) (s : State) : Result := .next (xorOp d b (.lit n) s)

/-- `XOR Rd Rb Ra` (R124). -/
def execXorRR (d b a : RegNo) (s : State) : Result := .next (xorOp d b (.reg a) s)

end Sys2Proof.Machine
end

