-- ==== Sys2Proof/Machine/NotLdhLdc.lean ====
section
/-! DEFINITION. Opcode 0111: NOT, LDH, LDC (42_not_ldh_ldc.md R140 to R143). -/

namespace Sys2Proof.Machine

/-- `NOT Rd n` (42_not_ldh_ldc.md R140): computed as `NOT_MODE` says; N and Z written. -/
def execNotRL (d : RegNo) (n : BitVec 5) (s : State) : Result :=
  .next (writeResult d (notResult s.params.notMode (operandA s (.lit n))) s)

/-- `NOT Rd Ra` (R140). -/
def execNotRR (d a : RegNo) (s : State) : Result :=
  .next (writeResult d (notResult s.params.notMode (operandA s (.reg a))) s)

/-- `LDH Rd` (R141): `H` to `x[d]`, N and Z written. -/
def execLdh (d : RegNo) (s : State) : Result := .next (writeResult d s.h s)

/-- `LDC Rd` (R142): C, zero-extended, to `x[d]`, N and Z written, C kept. -/
def execLdc (d : RegNo) (s : State) : Result := .next (writeResult d ((BitVec.ofBool s.flags.c).setWidth 32) s)

end Sys2Proof.Machine
end

