-- ==== Sys2Proof/Machine/RegisterBranch.lean ====
section
/-! DEFINITION. BLR and the three forms of BR (44_register_branch.md R160 to R164). -/

namespace Sys2Proof.Machine

/-- `BLR Ra` (44_register_branch.md R160): the target is read before the link is written to `x[15]` (U8); N and Z become
free values (D9). -/
def execBlr (a : RegNo) (s : State) : Result :=
  .next (((s.setX 15#4 (linkValue s.pc)).setPc (targetOf (s.x a))).freeNZ)

/-- `BR Ra`, bank 0 form (R161): `pc <- RF[0][a][11:0]`; refused with `intMd` = 1 (D23). -/
def execBrReg (a : RegNo) (s : State) : Result :=
  if s.intMd then .refused .brBank0InInterruptMode else .next (s.setPc (targetOf (s.rf false a)))

/-- `BR`, mode-setting form, SETPSR (R162): `intMd <- IR[1]`, `GIE <- IR[0]`. -/
def execBrMode (k : BitVec 2) (s : State) : Result := .next ((s.setMode (k.getLsbD 1) (k.getLsbD 0)).advance)

/-- `BR Ra`, return form (R163): the return from an interrupt; refused with `intMd` = 0 (D23). -/
def execBrRet (a : RegNo) (s : State) : Result :=
  if s.intMd then .next (interruptReturn a s) else .refused .brReturnOutsideInterruptMode

end Sys2Proof.Machine
end

