-- ==== Sys2Proof/Machine/RelativeBranch.lean ====
section
/-! DEFINITION. Bc, sixteen conditions, and BL (46_relative_branch.md R180 to R182). -/

namespace Sys2Proof.Machine

/-- Bc on the condition Z (46_relative_branch.md R180, R181). -/
def execBeq (off : BitVec 10) (s : State) : Result := .next (branchIf (condHolds .eq s.flags) off s)

/-- Bc on the condition ~Z (46_relative_branch.md R180, R181). -/
def execBneq (off : BitVec 10) (s : State) : Result := .next (branchIf (condHolds .neq s.flags) off s)

/-- Bc on the condition C (46_relative_branch.md R180, R181). -/
def execBcs (off : BitVec 10) (s : State) : Result := .next (branchIf (condHolds .cs s.flags) off s)

/-- Bc on the condition ~C (46_relative_branch.md R180, R181). -/
def execBcc (off : BitVec 10) (s : State) : Result := .next (branchIf (condHolds .cc s.flags) off s)

/-- Bc on the condition N (46_relative_branch.md R180, R181). -/
def execBn (off : BitVec 10) (s : State) : Result := .next (branchIf (condHolds .n s.flags) off s)

/-- Bc on the condition ~N (46_relative_branch.md R180, R181). -/
def execBnn (off : BitVec 10) (s : State) : Result := .next (branchIf (condHolds .nn s.flags) off s)

/-- Bc on the condition V (46_relative_branch.md R180, R181). -/
def execBv (off : BitVec 10) (s : State) : Result := .next (branchIf (condHolds .v s.flags) off s)

/-- Bc on the condition ~V (46_relative_branch.md R180, R181). -/
def execBnv (off : BitVec 10) (s : State) : Result := .next (branchIf (condHolds .nv s.flags) off s)

/-- Bc on the condition ~(~C | Z) (46_relative_branch.md R180, R181). -/
def execBhi (off : BitVec 10) (s : State) : Result := .next (branchIf (condHolds .hi s.flags) off s)

/-- Bc on the condition ~C | Z (46_relative_branch.md R180, R181). -/
def execBls (off : BitVec 10) (s : State) : Result := .next (branchIf (condHolds .ls s.flags) off s)

/-- Bc on the condition ~S (46_relative_branch.md R180, R181). -/
def execBgeq (off : BitVec 10) (s : State) : Result := .next (branchIf (condHolds .geq s.flags) off s)

/-- Bc on the condition S (46_relative_branch.md R180, R181). -/
def execBlss (off : BitVec 10) (s : State) : Result := .next (branchIf (condHolds .lss s.flags) off s)

/-- Bc on the condition ~(S | Z) (46_relative_branch.md R180, R181). -/
def execBgtr (off : BitVec 10) (s : State) : Result := .next (branchIf (condHolds .gtr s.flags) off s)

/-- Bc on the condition S | Z (46_relative_branch.md R180, R181). -/
def execBleq (off : BitVec 10) (s : State) : Result := .next (branchIf (condHolds .leq s.flags) off s)

/-- Bc on the condition true (46_relative_branch.md R180, R181). -/
def execBt (off : BitVec 10) (s : State) : Result := .next (branchIf (condHolds .always s.flags) off s)

/-- Bc on the condition false (46_relative_branch.md R180, R181). -/
def execBf (off : BitVec 10) (s : State) : Result := .next (branchIf (condHolds .never s.flags) off s)

/-- `BL n` (46_relative_branch.md R182): the link to `x[15]`, `pc` to the target; N and Z become free values (D9). -/
def execBl (off : BitVec 14) (s : State) : Result :=
  .next (((s.setX 15#4 (linkValue s.pc)).setPc (blTarget s.pc off)).freeNZ)

end Sys2Proof.Machine
end

