-- ==== Sys2Proof/Machine/Dispatch.lean ====
section
/-! DEFINITION. Which meaning each instruction has: one arm per constructor. -/

namespace Sys2Proof.Machine

/-- The meaning of an instruction. -/
def exec (i : Instr) (s : State) : Host.Outcome State Fault Refusal :=
  match i with
  | .andRL d b n => Sys2Proof.Machine.execAndRL d b n s
  | .andRR d b a => Sys2Proof.Machine.execAndRR d b a s
  | .bicRL d b n => Sys2Proof.Machine.execBicRL d b n s
  | .bicRR d b a => Sys2Proof.Machine.execBicRR d b a s
  | .orRL d b n => Sys2Proof.Machine.execOrRL d b n s
  | .orRR d b a => Sys2Proof.Machine.execOrRR d b a s
  | .xorRL d b n => Sys2Proof.Machine.execXorRL d b n s
  | .xorRR d b a => Sys2Proof.Machine.execXorRR d b a s
  | .addRL d b n => Sys2Proof.Machine.execAddRL d b n s
  | .addRR d b a => Sys2Proof.Machine.execAddRR d b a s
  | .subRL d b n => Sys2Proof.Machine.execSubRL d b n s
  | .subRR d b a => Sys2Proof.Machine.execSubRR d b a s
  | .mulRL d b n => Sys2Proof.Machine.execMulRL d b n s
  | .mulRR d b a => Sys2Proof.Machine.execMulRR d b a s
  | .notRL d n => Sys2Proof.Machine.execNotRL d n s
  | .notRR d a => Sys2Proof.Machine.execNotRR d a s
  | .ldh d => Sys2Proof.Machine.execLdh d s
  | .ldc d => Sys2Proof.Machine.execLdc d s
  | .lit d n => Sys2Proof.Machine.execLit d n s
  | .rorRL d b n => Sys2Proof.Machine.execRorRL d b n s
  | .rorRR d b a => Sys2Proof.Machine.execRorRR d b a s
  | .blr a => Sys2Proof.Machine.execBlr a s
  | .brReg a => Sys2Proof.Machine.execBrReg a s
  | .brMode k => Sys2Proof.Machine.execBrMode k s
  | .brRet a => Sys2Proof.Machine.execBrRet a s
  | .ldRL d b n => Sys2Proof.Machine.execLdRL d b n s
  | .ldRR d b a => Sys2Proof.Machine.execLdRR d b a s
  | .stRL d b n => Sys2Proof.Machine.execStRL d b n s
  | .stRR d b a => Sys2Proof.Machine.execStRR d b a s
  | .beq off => Sys2Proof.Machine.execBeq off s
  | .bneq off => Sys2Proof.Machine.execBneq off s
  | .bcs off => Sys2Proof.Machine.execBcs off s
  | .bcc off => Sys2Proof.Machine.execBcc off s
  | .bn off => Sys2Proof.Machine.execBn off s
  | .bnn off => Sys2Proof.Machine.execBnn off s
  | .bv off => Sys2Proof.Machine.execBv off s
  | .bnv off => Sys2Proof.Machine.execBnv off s
  | .bhi off => Sys2Proof.Machine.execBhi off s
  | .bls off => Sys2Proof.Machine.execBls off s
  | .bgeq off => Sys2Proof.Machine.execBgeq off s
  | .blss off => Sys2Proof.Machine.execBlss off s
  | .bgtr off => Sys2Proof.Machine.execBgtr off s
  | .bleq off => Sys2Proof.Machine.execBleq off s
  | .bt off => Sys2Proof.Machine.execBt off s
  | .bf off => Sys2Proof.Machine.execBf off s
  | .bl off => Sys2Proof.Machine.execBl off s

end Sys2Proof.Machine
end

