-- ==== Sys2Proof/Machine/Step.lean ====
section
/-! DEFINITION. One step: at an instruction boundary an interrupt is taken or an instruction is fetched, decoded and executed. -/

namespace Sys2Proof.Machine

/-- One step of the machine (60_exceptions.md R209, R210, R214): an interrupt is taken instead of the instruction at `pc`, or
that instruction is fetched (20_memory.md R76), decoded (30_encoding.md R101) and executed to its end (20_memory.md R80). -/
def step (s : State) : Host.Outcome State Fault Refusal :=
  match interruptNow s with
  | some k => .next (interruptEntry k (atBoundary s))
  | none =>
    match fetch s with
    | none => .fault .unloadedProgramWord
    | some w =>
      match decode w with
      | .error g => .refused (.unassignedEncoding g)
      | .ok i => exec i (atBoundary s)

/-- `s` with the instruction whose bits are `w` loaded at the address the next step fetches from: it stands for the loader
that the spec does not describe (log entry 8). An instruction is one 18-bit word, so `nbits` says nothing more. -/
def State.withFetchWord (s : State) (_nbits w : Nat) : State :=
  { s with pmem := writeCell s.pmem s.pc.toNat (BitVec.ofNat 18 w) }

end Sys2Proof.Machine
end

