-- ==== Sys2Proof/Safety.lean ====
section
/-! DEFINITION. The terms in which claims speak of the machine: invariants of a state, what a step leaves unchanged, and the
end of a run. -/

namespace Sys2Proof.Machine

/-- Both memories have their canonical form: addresses strictly rising and inside the memory (10_state.md R45, R46). -/
def MemoriesOk (s : State) : Prop := Memory.wf pmemWords s.pmem = true ∧ Memory.wf dmemWords s.dmem = true

/-- Where a netNode has one buffer address register, its two names read alike (60_exceptions.md R227, log entry 20). -/
def BufAddrOk (s : State) : Prop := s.params.bufAddr = .shared → s.dev.netNode.inAddr = s.dev.netNode.outAddr

/-- What a program can never change: the core's number, the parameters, program memory and the id of the netNode
(10_state.md R52, R45; 60_exceptions.md R226). -/
def SameConstants (s t : State) : Prop :=
  t.coreId = s.coreId ∧ t.params = s.params ∧ t.pmem = s.pmem ∧ t.dev.netNode.id = s.dev.netNode.id

/-- Every general register of both banks but `RF[k][d]` is as before. -/
def RegsExcept (k : Bool) (d : RegNo) (s t : State) : Prop :=
  ∀ bank i, (bank, i) ≠ (k, d) → t.rf bank i = s.rf bank i

/-- Every general register of both banks is as before. -/
def SameRegs (s t : State) : Prop := ∀ bank i, t.rf bank i = s.rf bank i

/-- Every word of data memory reads as before. -/
def SameData (s t : State) : Prop := ∀ a, dmemRead t.dmem a = dmemRead s.dmem a

/-- Every word of data memory but the one at `a` reads as before. -/
def DataExcept (a : BitVec 11) (s t : State) : Prop := ∀ b, b ≠ a → dmemRead t.dmem b = dmemRead s.dmem b

/-- `intMd` and `GIE` are as before (10_state.md R42: the whole of the control state). -/
def SameMode (s t : State) : Prop := t.intMd = s.intMd ∧ t.gie = s.gie

/-- No device, no port and no answer from outside was touched. -/
def SameOutside (s t : State) : Prop := t.dev = s.dev ∧ t.trace = s.trace ∧ t.oracle = s.oracle

/-- No device and no port was touched; free values may have been drawn. -/
def SameDevices (s t : State) : Prop := t.dev = s.dev ∧ t.trace = s.trace

/-- Everything but general registers, flags, `H` and `pc` is as before: the frame of an instruction that only computes. -/
def OnlyComputes (s t : State) : Prop :=
  SameMode s t ∧ SameData s t ∧ SameOutside s t ∧ SameConstants s t

/-- Every general register of both banks but `RF[k][d]` for the `d` given, if one is, is as before. -/
def RegsExceptOpt (k : Bool) (d : Option RegNo) (s t : State) : Prop :=
  match d with
  | none => SameRegs s t
  | some d => RegsExcept k d s t

/-- The answers that the outside has ready are as before; free values may have been drawn. -/
def SameAnswers (s t : State) : Prop :=
  t.oracle.ioAnswers = s.oracle.ioAnswers ∧ t.oracle.irqAnswers = s.oracle.irqAnswers ∧
    t.oracle.blockAnswers = s.oracle.blockAnswers

/-- The flags with N and Z from a result, as 10_state.md R35 defines them, and the C and V given. -/
def nzFlags (r : Word) (c v : Bool) : Flags := { n := r.getLsbD 31, z := decide (r = 0#32), c := c, v := v }

/-- What an instruction that only computes leaves: `r` in `x[d]` and no other register changed, the flags `f`, `pc` advanced,
`H` and everything else as before. -/
def Computes (s t : State) (d : RegNo) (r : Word) (f : Flags) : Prop :=
  t.rf s.intMd d = r ∧ RegsExcept s.intMd d s t ∧ t.flags = f ∧ t.pc = s.pc + 1#12 ∧ t.h = s.h ∧ OnlyComputes s t

/-- What ADD leaves, in exact arithmetic (41_arith.md R130). -/
def AddsTo (s t : State) (d : RegNo) (x y : Word) : Prop :=
  ∃ r f, Computes s t d r f ∧ r.toNat = (x.toNat + y.toNat) % 2 ^ 32 ∧
    f.n = r.getLsbD 31 ∧ f.z = decide (r = 0#32) ∧ f.c = decide (2 ^ 32 ≤ x.toNat + y.toNat) ∧
    f.v = decide (x.toInt + y.toInt < -2 ^ 31 ∨ 2 ^ 31 ≤ x.toInt + y.toInt)

/-- What SUB leaves, in exact arithmetic (41_arith.md R131). -/
def SubtractsTo (s t : State) (d : RegNo) (x y : Word) : Prop :=
  ∃ r f, Computes s t d r f ∧ (r.toNat : Int) = ((x.toNat : Int) - y.toNat) % 2 ^ 32 ∧
    f.n = r.getLsbD 31 ∧ f.z = decide (r = 0#32) ∧ f.c = decide (y.toNat ≤ x.toNat) ∧
    f.v = decide (x.toInt - y.toInt < -2 ^ 31 ∨ 2 ^ 31 ≤ x.toInt - y.toInt)

/-- What MUL leaves, in exact arithmetic (41_arith.md R134). -/
def MultipliesTo (s t : State) (d : RegNo) (x y : Word) : Prop :=
  ∃ p : BitVec 64,
    (s.params.mulSignedness = .signed → p.toInt = x.toInt * y.toInt) ∧
    (s.params.mulSignedness = .unsigned → p.toNat = x.toNat * y.toNat) ∧
    t.rf s.intMd d = p.extractLsb' 0 32 ∧ t.h = p.extractLsb' 32 32 ∧
    RegsExcept s.intMd d s t ∧ t.flags = s.flags ∧ t.pc = s.pc + 1#12 ∧ OnlyComputes s t

/-- What ROR leaves, bit by bit (43_lit_ror.md R151). -/
def RotatesTo (s t : State) (d : RegNo) (x y : Word) : Prop :=
  ∃ r, Computes s t d r (nzFlags r (x.getLsbD (y.toNat % 32)) s.flags.v) ∧
    ∀ i, i < 32 → r.getLsbD i = x.getLsbD ((i + y.toNat) % 32)

/-- What Bc leaves: the pc alone is written, and a taken branch counts its signed offset from the next instruction, modulo
4096 (46_relative_branch.md R180). -/
def Branches (s t : State) (taken : Bool) (off : BitVec 10) : Prop :=
  (t.pc.toNat : Int) = (s.pc.toNat + 1 + if taken then off.toInt else 0) % 4096 ∧ t = s.setPc t.pc

/-- What a call leaves but for `pc`: the link in `x[15]`, N and Z free, everything else as before (46_relative_branch.md R182,
44_register_branch.md R160). -/
def Links (s t : State) : Prop :=
  (t.rf s.intMd 15#4).toNat = (s.pc.toNat + 1) % 4096 ∧ RegsExcept s.intMd 15#4 s t ∧
    t.flags.c = s.flags.c ∧ t.flags.v = s.flags.v ∧ t.h = s.h ∧
    SameMode s t ∧ SameData s t ∧ SameDevices s t ∧ SameAnswers s t ∧ SameConstants s t

/-- What LD leaves on the core's side with the value `v`, N and Z free (45_load_store.md R170). -/
def Loads (s t : State) (d : RegNo) (v : Word) : Prop :=
  t.rf s.intMd d = v ∧ RegsExcept s.intMd d s t ∧ t.flags.c = s.flags.c ∧ t.flags.v = s.flags.v ∧
    t.h = s.h ∧ t.pc = s.pc + 1#12 ∧ SameMode s t ∧ SameData s t ∧ SameConstants s t

/-- What ST leaves unchanged: everything but `pc`, data memory, devices and trace (45_load_store.md R171). -/
def StoresOnly (s t : State) : Prop :=
  SameRegs s t ∧ t.flags = s.flags ∧ t.h = s.h ∧ t.pc = s.pc + 1#12 ∧ SameMode s t ∧ SameConstants s t

/-- The addresses of the I/O window, 0xF00 to 0xFFF (20_memory.md R62). -/
def InIoWindow (ea : Word) : Prop := 0xF00 ≤ ea.toNat ∧ ea.toNat ≤ 0xFFF

/-- The addresses that are neither data memory nor I/O window (20_memory.md R62). -/
def IsUndecoded (ea : Word) : Prop := 2048 ≤ ea.toNat ∧ ¬InIoWindow ea

/-- The step at `s` executes `i`: no interrupt is taken, and the word at `pc` decodes to `i`. -/
def Runs (s : State) (i : Instr) : Prop := interruptNow s = none ∧ ∃ w, fetch s = some w ∧ decode w = .ok i

/-- LD with a second operand of either form (45_load_store.md R170). -/
def ldForm (d b : RegNo) : Operand → Instr
  | .lit n => .ldRL d b n
  | .reg a => .ldRR d b a

/-- ST with a second operand of either form (45_load_store.md R171). -/
def stForm (d b : RegNo) : Operand → Instr
  | .lit n => .stRL d b n
  | .reg a => .stRR d b a

/-- SUB with a second operand of either form (41_arith.md R131). -/
def subForm (d b : RegNo) : Operand → Instr
  | .lit n => .subRL d b n
  | .reg a => .subRR d b a

/-- A result with its next state, if it has one, changed. -/
def onNext (f : State → State) (r : Result) : Result :=
  match r with
  | .next t => .next (f t)
  | .fault e => .fault e
  | .refused e => .refused e

/-- The general register an instruction writes, in the current bank (10_state.md R23). -/
def destOf : Instr → Option RegNo
  | .andRL d _ _ | .andRR d _ _ | .bicRL d _ _ | .bicRR d _ _ | .orRL d _ _ | .orRR d _ _ | .xorRL d _ _ | .xorRR d _ _
  | .addRL d _ _ | .addRR d _ _ | .subRL d _ _ | .subRR d _ _ | .mulRL d _ _ | .mulRR d _ _ | .notRL d _ | .notRR d _
  | .ldh d | .ldc d | .lit d _ | .rorRL d _ _ | .rorRR d _ _ | .ldRL d _ _ | .ldRR d _ _ => some d
  | .blr _ | .bl _ => some 15#4
  | .brReg _ | .brMode _ | .brRet _ | .stRL _ _ _ | .stRR _ _ _ | .beq _ | .bneq _ | .bcs _ | .bcc _ | .bn _ | .bnn _
  | .bv _ | .bnv _ | .bhi _ | .bls _ | .bgeq _ | .blss _ | .bgtr _ | .bleq _ | .bt _ | .bf _ => none

/-- The families of the opcode map that whole-machine rules name (30_encoding.md R100). -/
inductive Family where
  | logic | add | sub | mul | not | ldh | ldc | lit | ror | blr | brReg | brMode | brRet | ld | st | bc | bl
  deriving DecidableEq, Repr

/-- The family of an instruction (30_encoding.md R100). -/
def familyOf : Instr → Family
  | .andRL .. | .andRR .. | .bicRL .. | .bicRR .. | .orRL .. | .orRR .. | .xorRL .. | .xorRR .. => .logic
  | .addRL .. | .addRR .. => .add
  | .subRL .. | .subRR .. => .sub
  | .mulRL .. | .mulRR .. => .mul
  | .notRL .. | .notRR .. => .not
  | .ldh .. => .ldh
  | .ldc .. => .ldc
  | .lit .. => .lit
  | .rorRL .. | .rorRR .. => .ror
  | .blr .. => .blr
  | .brReg .. => .brReg
  | .brMode .. => .brMode
  | .brRet .. => .brRet
  | .ldRL .. | .ldRR .. => .ld
  | .stRL .. | .stRR .. => .st
  | .beq .. | .bneq .. | .bcs .. | .bcc .. | .bn .. | .bnn .. | .bv .. | .bnv .. | .bhi .. | .bls .. | .bgeq .. | .blss ..
  | .bgtr .. | .bleq .. | .bt .. | .bf .. => .bc
  | .bl .. => .bl

/-- The address an LD or ST forms (20_memory.md R61). -/
def accessAddress (s : State) : Instr → Option Word
  | .ldRL _ b n | .stRL _ b n => some (effectiveAddress s b (.lit n))
  | .ldRR _ b a | .stRR _ b a => some (effectiveAddress s b (.reg a))
  | _ => none

/-- A run to the address at which a claim regards it as ended (70_reset_and_hazards.md R281, D26): the first state whose
`pc` is `endPc`, within `fuel` steps. -/
def runUntil (endPc : PAddr) : Nat → State → Option State
  | 0, s => if s.pc = endPc then some s else none
  | k + 1, s =>
    if s.pc = endPc then some s
    else
      match step s with
      | .next t => runUntil endPc k t
      | .fault _ => none
      | .refused _ => none

end Sys2Proof.Machine
end

