-- ==== Sys2Proof/Certificates/Slice0/Obligations.lean ====
section
/-! DEFINITION. The statements about the model, for the provers. Tier, basis and citations of each stand in
OBLIGATIONS.json; the vocabulary (`Computes`, `Loads`, `Runs`, …) is that of Safety.lean. -/

open Sys2Proof Sys2Proof.Machine

/-! ## Encoding -/

/-- Decoding the canonical word of any instruction gives that instruction (30_encoding.md R100, R101). -/
def Obligations.DecodeInvertsEncode : Prop := ∀ i : Instr, decode (encode i) = .ok i

/-- A word stands for an instruction exactly if, its don't-care bits cleared, it is the instruction's canonical word; so words
that differ in don't-care bits alone are the same instruction. And IR[13:12] of BL do not change what BL does
(30_encoding.md R102). -/
def Obligations.DontCareBitsDoNotMatter : Prop :=
  (∀ (w : Code) (i : Instr), decode w = .ok i ↔ w &&& significant i = encode i) ∧
  (∀ (w v : Code) (i : Instr), decode w = .ok i → (w ^^^ v) &&& significant i = 0#18 → decode v = .ok i) ∧
  (∀ (m n : BitVec 14) (s : State), m.setWidth 12 = n.setWidth 12 → exec (.bl m) s = exec (.bl n) s)

/-- The decoder refuses exactly the words of the two groups of R103, each under its name, and every other word stands for an
instruction (30_encoding.md R101, R103). -/
def Obligations.DecodeRefusesExactlyUnassigned : Prop :=
  ∀ w : Code,
    (decode w = .error .op0111 ↔
      w.toNat / 2 ^ 14 = 0b0111 ∧ w.toNat / 2 ^ 4 % 4 = 0b11 ∧ 2 ≤ w.toNat % 2 ^ 4) ∧
    (decode w = .error .op1010 ↔ w.toNat / 2 ^ 14 = 0b1010 ∧ w.toNat / 2 ^ 5 % 2 = 0)

/-- Words printed in the manual's listings, or built by the spec from the encoding lines, decode as printed
(95_test_vectors.md, E1, E2, section 2). -/
def Obligations.ListedWordsDecode : Prop :=
  decode 0x27BD5#18 = .ok (.rorRL 14 15 21) ∧ decode 0x08021#18 = .ok (.orRR 0 0 1) ∧
  decode 0x34341#18 = .ok (.stRL 0 13 1) ∧ decode 0x30743#18 = .ok (.ldRL 1 13 3) ∧
  decode 0x20430#18 = .ok (.lit 1 48) ∧ decode 0x38BFB#18 = .ok (.bcs 0x3FB) ∧ decode 0x3C00F#18 = .ok (.bl 15) ∧
  decode 0x2C03F#18 = .ok (.brRet 15) ∧ decode 0x2FFDE#18 = .ok (.brMode 2) ∧ decode 0x1C9E3#18 = .ok (.notRR 2 3)

/-! ## The step -/

/-- Where no interrupt is taken and the word at `pc` decodes to `i`, the step is `exec i` (20_memory.md R76, 30_encoding.md R101)
at the same state but for the answer that the instruction boundary asked for with `GIE` = 1: nothing but the oracle is changed by
that, and with `GIE` = 0 nothing at all. That each such boundary asks, and what the asking changes, is the model's own form of
60_exceptions.md R209 (D20, D24: log entry 11). -/
def Obligations.StepRunsDecodedInstruction : Prop :=
  ∀ (s : State) (w : Code) (i : Instr), interruptNow s = none → fetch s = some w → decode w = .ok i →
    step s = exec i (atBoundary s) ∧ (∃ o, atBoundary s = s.setOracle o) ∧ (s.gie = false → atBoundary s = s)

/-- At a boundary where an interrupt is taken, the step is the entry: the flags and the address of the pended instruction in
`RF[1][15]`, `intMd` 1, `GIE` 0, `pc` at the vector; nothing else changes (60_exceptions.md R210, with the layout of R211,
which is the spec's decision D21: log entry 12). -/
def Obligations.StepTakesInterrupt : Prop :=
  ∀ (s : State) (k : IrqSource), interruptNow s = some k →
    ∃ t, step s = .next t ∧
      t.pc = (match k with | .msgInput => 2#12 | .msgOutput => 3#12 | .rs232 => 4#12) ∧
      t.intMd = true ∧ t.gie = false ∧
      (t.rf true 15#4).getLsbD 31 = s.flags.n ∧ (t.rf true 15#4).getLsbD 30 = s.flags.z ∧
      (t.rf true 15#4).getLsbD 29 = s.flags.c ∧ (t.rf true 15#4).getLsbD 28 = s.flags.v ∧
      (t.rf true 15#4).toNat % 4096 = s.pc.toNat ∧
      RegsExcept true 15#4 s t ∧ t.flags = s.flags ∧ t.h = s.h ∧ SameData s t ∧ SameDevices s t ∧ SameConstants s t

/-- With no interrupt taken, a step that fetches a word no image gives is a fault, and there is no other fault; one that
fetches an unassigned word is refused (93_implementation_defined.md U19, U5: log entries 7 and 17). -/
def Obligations.StepStopsAtTheFetch : Prop :=
  ∀ s : State, interruptNow s = none →
    ((∃ e, step s = .fault e) ↔ readCell s.pmem s.pc.toNat = none) ∧
    (∀ w g, readCell s.pmem s.pc.toNat = some w → decode w = .error g → step s = .refused (.unassignedEncoding g))

/-! ## Logic -/

/-- AND in both forms completes with `x[b] & A`, N and Z from it (40_logic.md R121; C and V kept by decision D8: log entry 14). -/
def Obligations.AndResult : Prop :=
  ∀ (s : State) (d b a : RegNo) (n : BitVec 5),
    (∃ t, exec (.andRL d b n) s = .next t ∧
      Computes s t d (s.x b &&& n.setWidth 32) (nzFlags (s.x b &&& n.setWidth 32) s.flags.c s.flags.v)) ∧
    (∃ t, exec (.andRR d b a) s = .next t ∧
      Computes s t d (s.x b &&& s.x a) (nzFlags (s.x b &&& s.x a) s.flags.c s.flags.v))

/-- BIC in both forms completes with `x[b] & ~A`, N and Z from it (40_logic.md R122; D8: log entry 14). -/
def Obligations.BicResult : Prop :=
  ∀ (s : State) (d b a : RegNo) (n : BitVec 5),
    (∃ t, exec (.bicRL d b n) s = .next t ∧
      Computes s t d (s.x b &&& ~~~(n.setWidth 32)) (nzFlags (s.x b &&& ~~~(n.setWidth 32)) s.flags.c s.flags.v)) ∧
    (∃ t, exec (.bicRR d b a) s = .next t ∧
      Computes s t d (s.x b &&& ~~~(s.x a)) (nzFlags (s.x b &&& ~~~(s.x a)) s.flags.c s.flags.v))

/-- OR in both forms completes with `x[b] | A`, N and Z from it (40_logic.md R123; D8: log entry 14). -/
def Obligations.OrResult : Prop :=
  ∀ (s : State) (d b a : RegNo) (n : BitVec 5),
    (∃ t, exec (.orRL d b n) s = .next t ∧
      Computes s t d (s.x b ||| n.setWidth 32) (nzFlags (s.x b ||| n.setWidth 32) s.flags.c s.flags.v)) ∧
    (∃ t, exec (.orRR d b a) s = .next t ∧
      Computes s t d (s.x b ||| s.x a) (nzFlags (s.x b ||| s.x a) s.flags.c s.flags.v))

/-- XOR in both forms completes with `x[b] ^ A`, N and Z from it (40_logic.md R124; D8: log entry 14). -/
def Obligations.XorResult : Prop :=
  ∀ (s : State) (d b a : RegNo) (n : BitVec 5),
    (∃ t, exec (.xorRL d b n) s = .next t ∧
      Computes s t d (s.x b ^^^ n.setWidth 32) (nzFlags (s.x b ^^^ n.setWidth 32) s.flags.c s.flags.v)) ∧
    (∃ t, exec (.xorRR d b a) s = .next t ∧
      Computes s t d (s.x b ^^^ s.x a) (nzFlags (s.x b ^^^ s.x a) s.flags.c s.flags.v))

/-! ## Arithmetic -/

/-- ADD in both forms completes: the sum modulo 2^32, C where the exact unsigned sum reaches 2^32, V where the exact signed
sum leaves the range of 32 bits (41_arith.md R130; that ADD writes C and V is decision D8: log entry 14). -/
def Obligations.AddResult : Prop :=
  ∀ (s : State) (d b a : RegNo) (n : BitVec 5),
    (∃ t, exec (.addRL d b n) s = .next t ∧ AddsTo s t d (s.x b) (n.setWidth 32)) ∧
    (∃ t, exec (.addRR d b a) s = .next t ∧ AddsTo s t d (s.x b) (s.x a))

/-- SUB in both forms completes: the difference modulo 2^32, C where there is no borrow, V where the exact signed difference
leaves the range of 32 bits (41_arith.md R131; D7, D8: log entry 14). -/
def Obligations.SubResult : Prop :=
  ∀ (s : State) (d b a : RegNo) (n : BitVec 5),
    (∃ t, exec (.subRL d b n) s = .next t ∧ SubtractsTo s t d (s.x b) (n.setWidth 32)) ∧
    (∃ t, exec (.subRR d b a) s = .next t ∧ SubtractsTo s t d (s.x b) (s.x a))

/-- MUL in both forms completes: `x[d]` and `H` are the halves of the exact 64-bit product of the factors as the parameter
reads them, and no flag is written (41_arith.md R134; parameter by D13, flags by D8 and D9: log entries 2 and 14). -/
def Obligations.MulResult : Prop :=
  ∀ (s : State) (d b a : RegNo) (n : BitVec 5),
    (∃ t, exec (.mulRL d b n) s = .next t ∧ MultipliesTo s t d (s.x b) (n.setWidth 32)) ∧
    (∃ t, exec (.mulRR d b a) s = .next t ∧ MultipliesTo s t d (s.x b) (s.x a))

/-! ## Opcode 0111 -/

/-- NOT in both forms completes with what `NOT_MODE` says: the negation modulo 2^32, or the complement
(42_not_ldh_ldc.md R140; D12: log entry 2). C and V are kept by decision D8 (log entry 14). -/
def Obligations.NotResult : Prop :=
  ∀ (s : State) (d a : RegNo) (n : BitVec 5),
    (∃ t r, exec (.notRL d n) s = .next t ∧ Computes s t d r (nzFlags r s.flags.c s.flags.v) ∧
      (s.params.notMode = .negate → r.toNat = (2 ^ 32 - n.toNat) % 2 ^ 32) ∧
      (s.params.notMode = .complement → r.toNat = 2 ^ 32 - 1 - n.toNat)) ∧
    (∃ t r, exec (.notRR d a) s = .next t ∧ Computes s t d r (nzFlags r s.flags.c s.flags.v) ∧
      (s.params.notMode = .negate → r.toNat = (2 ^ 32 - (s.x a).toNat) % 2 ^ 32) ∧
      (s.params.notMode = .complement → r.toNat = 2 ^ 32 - 1 - (s.x a).toNat))

/-- LDH completes with `H` in `x[d]`, N and Z from it (42_not_ldh_ldc.md R141; D8: log entry 14). -/
def Obligations.LdhResult : Prop :=
  ∀ (s : State) (d : RegNo), ∃ t, exec (.ldh d) s = .next t ∧ Computes s t d s.h (nzFlags s.h s.flags.c s.flags.v)

/-- LDC completes with 1 or 0 in `x[d]` as C is set or clear; N is 0 and Z is not C; C and V are kept
(42_not_ldh_ldc.md R142; D8, D11: log entries 14 and 26). -/
def Obligations.LdcResult : Prop :=
  ∀ (s : State) (d : RegNo), ∃ t, exec (.ldc d) s = .next t ∧
    Computes s t d (if s.flags.c then 1#32 else 0#32) { n := false, z := !s.flags.c, c := s.flags.c, v := s.flags.v }

/-! ## LIT and ROR -/

/-- LIT completes with the literal, 0 to 1023, in `x[d]`; N is 0 and Z says whether it is 0 (43_lit_ror.md R150; D8: log entry 14). -/
def Obligations.LitResult : Prop :=
  ∀ (s : State) (d : RegNo) (n : BitVec 10), ∃ t r, exec (.lit d n) s = .next t ∧ r.toNat = n.toNat ∧
    Computes s t d r { n := false, z := decide (n = 0#10), c := s.flags.c, v := s.flags.v }

/-- ROR in both forms completes: bit i of the result is bit (i + k) mod 32 of `x[b]` for the amount k, C is bit k of `x[b]`,
V is kept (43_lit_ror.md R151; amounts above 31 by D10, V by D8: log entries 26 and 14). -/
def Obligations.RorResult : Prop :=
  ∀ (s : State) (d b a : RegNo) (n : BitVec 5),
    (∃ t, exec (.rorRL d b n) s = .next t ∧ RotatesTo s t d (s.x b) (n.setWidth 32)) ∧
    (∃ t, exec (.rorRR d b a) s = .next t ∧ RotatesTo s t d (s.x b) (s.x a))

/-! ## Register branches and mode control -/

/-- BLR completes: `pc` is the low 12 bits of the old `x[a]`, also with a = 15, and `x[15]` the link
(44_register_branch.md R160; D5, D6, D9 and the order of U8: log entries 9, 15, 26). -/
def Obligations.BlrResult : Prop :=
  ∀ (s : State) (a : RegNo), ∃ t, exec (.blr a) s = .next t ∧ t.pc.toNat = (s.x a).toNat % 4096 ∧ Links s t

/-- The bank 0 form of BR completes with `intMd` = 0: `pc` is the low 12 bits of `RF[0][a]` and nothing else changes; with
`intMd` = 1 it is refused (44_register_branch.md R161; D6, D23: log entries 13, 15). -/
def Obligations.BrBankZeroResult : Prop :=
  ∀ (s : State) (a : RegNo),
    (s.intMd = false → ∃ t, exec (.brReg a) s = .next t ∧ t.pc.toNat = (s.rf false a).toNat % 4096 ∧ t = s.setPc t.pc) ∧
    (s.intMd = true → exec (.brReg a) s = .refused .brBank0InInterruptMode)

/-- The mode-setting form of BR completes: `intMd` is IR[1], `GIE` is IR[0], `pc` advances, nothing else changes
(44_register_branch.md R162; literal also for k = 2 and 3 and inside a handler by D27, D28: log entry 27). -/
def Obligations.BrModeResult : Prop :=
  ∀ (s : State) (k : BitVec 2), ∃ t, exec (.brMode k) s = .next t ∧
    t.intMd = decide (2 ≤ k.toNat) ∧ t.gie = decide (k.toNat % 2 = 1) ∧ t.pc = s.pc + 1#12 ∧
    SameRegs s t ∧ t.flags = s.flags ∧ t.h = s.h ∧ SameData s t ∧ SameOutside s t ∧ SameConstants s t

/-- The return form of BR completes with `intMd` = 1: `pc` is the low 12 bits of `RF[1][a]`, N, Z, C, V its bits 31 to 28,
`intMd` 0, `GIE` 1, nothing else changes; with `intMd` = 0 it is refused (44_register_branch.md R163; D21, D22, D23: log
entries 12 and 13). -/
def Obligations.BrReturnResult : Prop :=
  ∀ (s : State) (a : RegNo),
    (s.intMd = true → ∃ t, exec (.brRet a) s = .next t ∧ t.pc.toNat = (s.rf true a).toNat % 4096 ∧
      t.flags.n = (s.rf true a).getLsbD 31 ∧ t.flags.z = (s.rf true a).getLsbD 30 ∧
      t.flags.c = (s.rf true a).getLsbD 29 ∧ t.flags.v = (s.rf true a).getLsbD 28 ∧
      t.intMd = false ∧ t.gie = true ∧
      SameRegs s t ∧ t.h = s.h ∧ SameData s t ∧ SameOutside s t ∧ SameConstants s t) ∧
    (s.intMd = false → exec (.brRet a) s = .refused .brReturnOutsideInterruptMode)

/-! ## Load and store -/

/-- LD at an effective address 0 to 2047 completes with that word of data memory in `x[d]`, and touches no port; the base is
not modified unless it is the destination (45_load_store.md R170, 20_memory.md R61, R64; N and Z are free by D9: log entry 9). -/
def Obligations.LoadFromDataMemory : Prop :=
  ∀ (s : State) (d b a : RegNo) (n : BitVec 5),
    ((s.x b + n.setWidth 32).toNat < 2048 → ∃ t, exec (.ldRL d b n) s = .next t ∧
      Loads s t d (dmemRead s.dmem ((s.x b + n.setWidth 32).setWidth 11)) ∧ SameDevices s t ∧ SameAnswers s t) ∧
    ((s.x b + s.x a).toNat < 2048 → ∃ t, exec (.ldRR d b a) s = .next t ∧
      Loads s t d (dmemRead s.dmem ((s.x b + s.x a).setWidth 11)) ∧ SameDevices s t ∧ SameAnswers s t)

/-- ST at an effective address 0 to 2047 completes: that word of data memory is `x[d]`, every other one is as before, and no
port is touched (45_load_store.md R171, 20_memory.md R61, R65). -/
def Obligations.StoreToDataMemory : Prop :=
  ∀ (s : State) (d b a : RegNo) (n : BitVec 5),
    ((s.x b + n.setWidth 32).toNat < 2048 → ∃ t, exec (.stRL d b n) s = .next t ∧ StoresOnly s t ∧
      dmemRead t.dmem ((s.x b + n.setWidth 32).setWidth 11) = s.x d ∧
      DataExcept ((s.x b + n.setWidth 32).setWidth 11) s t ∧ SameOutside s t) ∧
    ((s.x b + s.x a).toNat < 2048 → ∃ t, exec (.stRR d b a) s = .next t ∧ StoresOnly s t ∧
      dmemRead t.dmem ((s.x b + s.x a).setWidth 11) = s.x d ∧
      DataExcept ((s.x b + s.x a).setWidth 11) s t ∧ SameOutside s t)

/-- Which port numbers reach a register, and on which cores (20_memory.md R69 to R71; the switches on core 11 by D16: log
entry 18). -/
def Obligations.PortsOfEachCore : Prop :=
  ∀ (core : Fin 12) (p : PortNo),
    portOf core p =
      match p.toNat with
      | 2 => some .netData
      | 3 => some .netCommand
      | 4 => if core = 11 then some .rsData else none
      | 5 => if core = 11 then some .rsCommand else none
      | 6 => if core = 11 then some .timerData else none
      | 7 => if core = 11 then some .timerCommand else none
      | 8 => if core = 11 then some .lcdData else none
      | 9 => if core = 11 then some .lcdCommand else none
      | 10 => if core = 6 then some .ddrData else none
      | 11 => if core = 6 then some .ddrCommand else none
      | 12 => if core = 11 then some .ledData else none
      | 14 => if core = 11 then some .switchInput else none
      | _ => none

/-- LD in the I/O window, at a port of this core, completes with the value the port presents in `x[d]`: one read in the trace,
the port's own read effect on the devices, data memory as before (45_load_store.md R170, 20_memory.md R62, R64, R68; the
window's bits 7:5 by D15: log entry 16). One answer is used up, so that the next read gets a fresh one (20_memory.md R82); blocks
of the DDR2 memory are asked for by a read of its status alone (log entries 10 and 23). -/
def Obligations.LoadFromPort : Prop :=
  ∀ (s : State) (d b : RegNo) (o : Operand) (q : Port),
    InIoWindow (s.x b + operandA s o) → portOf s.coreId ((s.x b + operandA s o).setWidth 5) = some q →
    ∃ t, exec (ldForm d b o) s = .next t ∧
      Loads s t d (portValue s.dev q s.ioAnswer) ∧
      t.dev = (portReadEffect q (portValue s.dev q s.ioAnswer) s.ioAnswered).dev ∧
      t.trace = s.trace ++ [.read ((s.x b + operandA s o).setWidth 5) (portValue s.dev q s.ioAnswer)] ∧
      t.oracle.ioAnswers = s.oracle.ioAnswers.tail ∧ t.oracle.irqAnswers = s.oracle.irqAnswers ∧
      (q ≠ .ddrCommand → t.oracle.blockAnswers = s.oracle.blockAnswers)

/-- ST in the I/O window, at a port of this core, completes: one write of `x[d]` in the trace, the port's own write effect on
the devices, data memory as before (45_load_store.md R171, 20_memory.md R62, R65, R68; D15: log entry 16). It uses no answer
from outside (20_memory.md R82; log entry 10). -/
def Obligations.StoreToPort : Prop :=
  ∀ (s : State) (d b : RegNo) (o : Operand) (q : Port),
    InIoWindow (s.x b + operandA s o) → portOf s.coreId ((s.x b + operandA s o).setWidth 5) = some q →
    ∃ t, exec (stForm d b o) s = .next t ∧
      StoresOnly s t ∧ SameData s t ∧ t.dev = (portWriteEffect q (s.x d) s).dev ∧
      t.trace = s.trace ++ [.write ((s.x b + operandA s o).setWidth 5) (s.x d)] ∧ SameAnswers s t

/-- LD and ST stop, each under the name that says why, at a port number this core does not have, and under `ADDR_DECODE` =
`refuse` at an undecoded address (20_memory.md R66, R68; D15, D16: log entries 16 and 18). -/
def Obligations.AccessesThatAreRefused : Prop :=
  ∀ (s : State) (d b : RegNo) (o : Operand),
    (InIoWindow (s.x b + operandA s o) → portOf s.coreId ((s.x b + operandA s o).setWidth 5) = none →
      exec (ldForm d b o) s = .refused .noSuchPort ∧
      exec (stForm d b o) s = .refused .noSuchPort) ∧
    (s.params.addrDecode = .refuse → IsUndecoded (s.x b + operandA s o) →
      exec (ldForm d b o) s = .refused .undecodedAddress ∧
      exec (stForm d b o) s = .refused .undecodedAddress)

/-- Under `ADDR_DECODE` = `alias` an undecoded address acts as the one of its low bits: the I/O address of its low 12 bits
where its bits 11:8 are 1111, else the data address of its low 11 bits (20_memory.md R66; D15: log entry 16). -/
def Obligations.AliasedAddresses : Prop :=
  ∀ (s : State) (ea v : Word), s.params.addrDecode = .aliased → IsUndecoded ea →
    (ea.toNat / 256 % 16 = 15 → memRead ea s = memRead (ea &&& 0xFFF#32) s ∧ memWrite ea v s = memWrite (ea &&& 0xFFF#32) v s) ∧
    (ea.toNat / 256 % 16 ≠ 15 → memRead ea s = memRead (ea &&& 0x7FF#32) s ∧ memWrite ea v s = memWrite (ea &&& 0x7FF#32) v s)

/-- An LD of the data word that the ST right before it stored gives the stored value, in either form of both and whatever
registers and literals form the address (20_memory.md R80; sequential by D17). -/
def Obligations.LoadAfterStore : Prop :=
  ∀ (s t u : State) (d b e c : RegNo) (o p : Operand),
    (s.x b + operandA s o).toNat < 2048 → exec (stForm d b o) s = .next t →
    t.x c + operandA t p = s.x b + operandA s o → exec (ldForm e c p) t = .next u →
    u.x e = s.x d

/-! ## Relative branches -/

/-- Bc with each of its sixteen conditions completes: taken exactly as the condition says, it continues at `pc` + 1 + the
signed offset modulo 4096, else at `pc` + 1; nothing but `pc` is written (46_relative_branch.md R180, R181; the wrap by D4:
log entry 15). -/
def Obligations.BranchResult : Prop :=
  ∀ (s : State) (off : BitVec 10),
    let f := s.flags
    (∃ t, exec (.beq off) s = .next t ∧ Branches s t f.z off) ∧
    (∃ t, exec (.bneq off) s = .next t ∧ Branches s t (!f.z) off) ∧
    (∃ t, exec (.bcs off) s = .next t ∧ Branches s t f.c off) ∧
    (∃ t, exec (.bcc off) s = .next t ∧ Branches s t (!f.c) off) ∧
    (∃ t, exec (.bn off) s = .next t ∧ Branches s t f.n off) ∧
    (∃ t, exec (.bnn off) s = .next t ∧ Branches s t (!f.n) off) ∧
    (∃ t, exec (.bv off) s = .next t ∧ Branches s t f.v off) ∧
    (∃ t, exec (.bnv off) s = .next t ∧ Branches s t (!f.v) off) ∧
    (∃ t, exec (.bhi off) s = .next t ∧ Branches s t (f.c && !f.z) off) ∧
    (∃ t, exec (.bls off) s = .next t ∧ Branches s t (!f.c || f.z) off) ∧
    (∃ t, exec (.bgeq off) s = .next t ∧ Branches s t (!(f.n ^^ f.v)) off) ∧
    (∃ t, exec (.blss off) s = .next t ∧ Branches s t (f.n ^^ f.v) off) ∧
    (∃ t, exec (.bgtr off) s = .next t ∧ Branches s t (!((f.n ^^ f.v) || f.z)) off) ∧
    (∃ t, exec (.bleq off) s = .next t ∧ Branches s t ((f.n ^^ f.v) || f.z) off) ∧
    (∃ t, exec (.bt off) s = .next t ∧ Branches s t true off) ∧
    (∃ t, exec (.bf off) s = .next t ∧ Branches s t false off)

/-- After a SUB of `q` from `p` the branches compare: equal, unsigned and signed order, sign and overflow of the difference
(41_arith.md R132, which the spec derives from R131 and R181). -/
def Obligations.BranchesCompareAfterSub : Prop :=
  ∀ (s t : State) (d b : RegNo) (o : Operand) (off : BitVec 10),
    exec (subForm d b o) s = .next t →
    let p := s.x b
    let q := operandA s o
    (∃ u, exec (.beq off) t = .next u ∧ Branches t u (decide (p = q)) off) ∧
    (∃ u, exec (.bneq off) t = .next u ∧ Branches t u (decide (p ≠ q)) off) ∧
    (∃ u, exec (.bcs off) t = .next u ∧ Branches t u (decide (q.toNat ≤ p.toNat)) off) ∧
    (∃ u, exec (.bcc off) t = .next u ∧ Branches t u (decide (p.toNat < q.toNat)) off) ∧
    (∃ u, exec (.bhi off) t = .next u ∧ Branches t u (decide (q.toNat < p.toNat)) off) ∧
    (∃ u, exec (.bls off) t = .next u ∧ Branches t u (decide (p.toNat ≤ q.toNat)) off) ∧
    (∃ u, exec (.bgeq off) t = .next u ∧ Branches t u (decide (q.toInt ≤ p.toInt)) off) ∧
    (∃ u, exec (.blss off) t = .next u ∧ Branches t u (decide (p.toInt < q.toInt)) off) ∧
    (∃ u, exec (.bgtr off) t = .next u ∧ Branches t u (decide (q.toInt < p.toInt)) off) ∧
    (∃ u, exec (.bleq off) t = .next u ∧ Branches t u (decide (p.toInt ≤ q.toInt)) off) ∧
    (∃ u, exec (.bn off) t = .next u ∧ Branches t u ((p - q).getLsbD 31) off) ∧
    (∃ u, exec (.bv off) t = .next u ∧
      Branches t u (decide (p.toInt - q.toInt < -2 ^ 31 ∨ 2 ^ 31 ≤ p.toInt - q.toInt)) off)

/-- BL completes: `x[15]` is the link, `pc` is `pc` + 1 + the offset modulo 4096 (46_relative_branch.md R182; D4, D5, D9: log
entries 9 and 15). -/
def Obligations.BranchAndLinkResult : Prop :=
  ∀ (s : State) (off : BitVec 14), ∃ t, exec (.bl off) s = .next t ∧
    t.pc.toNat = (s.pc.toNat + 1 + off.toNat) % 4096 ∧ Links s t

/-! ## Interrupts -/

/-- An interrupt that is taken is that of the requesting source of the lowest vector; entry clears `GIE`, and with `GIE` = 0
no interrupt is taken, so that the others wait (60_exceptions.md R208). -/
def Obligations.InterruptPriority : Prop :=
  (∀ (s : State) (k : IrqSource), interruptNow s = some k →
    irqRequest s s.irqAnswer k = true ∧
    (∀ j, irqRequest s s.irqAnswer j = true → (vectorOf k).toNat ≤ (vectorOf j).toNat) ∧
    ∃ t, step s = .next t ∧ t.gie = false) ∧
  (∀ s : State, s.gie = false → interruptNow s = none)

/-- An interrupt is taken only with `GIE` = 1 and the enable bit of its source 1, that of RS232 only on core 11; and with
`GIE` = 1 and a request it is taken where the outside says now and not where it says later (60_exceptions.md R206, R209;
D20, D24: log entry 11). -/
def Obligations.InterruptNeedsEnable : Prop :=
  ∀ (s : State) (k : IrqSource),
    (interruptNow s = some k →
      s.gie = true ∧
      (k = .msgInput → s.dev.netNode.enMsgIn = true) ∧
      (k = .msgOutput → s.dev.netNode.enOutEmpty = true) ∧
      (k = .rs232 → s.coreId = 11 ∧ s.dev.rs232.enRx = true)) ∧
    (s.gie = true → irqRequest s s.irqAnswer k = true → s.irqAnswer.enterNow = true → interruptNow s ≠ none) ∧
    (s.irqAnswer.enterNow = false → interruptNow s = none)

/-- A handler that leaves `RF[1][15]` alone returns to where the interrupt was taken: after an entry from `intMd` = 0, the
return through register 15, at any state in interrupt mode in which that register is unchanged, restores `pc`, the flags,
`intMd` and `GIE` (44_register_branch.md R163, 60_exceptions.md R212; D21, D22: log entries 12 and 13). -/
def Obligations.ReturnUndoesEntry : Prop :=
  ∀ (s t u : State) (k : IrqSource), interruptNow s = some k → s.intMd = false → step s = .next t →
    u.intMd = true → u.rf true 15#4 = t.rf true 15#4 →
    ∃ v, exec (.brRet 15#4) u = .next v ∧
      v.pc = s.pc ∧ v.flags = s.flags ∧ v.intMd = s.intMd ∧ v.gie = s.gie

/-! ## Invariants -/

/-- The state after reset meets the invariant of the next statement. -/
def Obligations.ResetMeetsInvariant : Prop := MemoriesOk State.reset ∧ BufAddrOk State.reset

/-- Every step keeps the invariant: both memories in canonical form inside their sizes, and the two names of a shared netNode
buffer address register reading alike (10_state.md R45, R46; 60_exceptions.md R227). -/
def Obligations.StepKeepsInvariant : Prop :=
  ∀ s t : State, MemoriesOk s ∧ BufAddrOk s → step s = .next t → MemoriesOk t ∧ BufAddrOk t

/-- No step changes the core's number, the parameters, program memory or the netNode's id (10_state.md R52; 20_memory.md R85,
which is decision D31; 60_exceptions.md R226, whose read-only id the spec derives). That the number, the parameters and the id are
fields of State is the model's choice (log entries 1, 2 and 28). -/
def Obligations.StepKeepsConstants : Prop := ∀ s t : State, step s = .next t → SameConstants s t

/-! ## Rules about the whole machine -/

/-- Program memory is reached by the fetch alone, at `pc`: no instruction reads it as data or writes it, so that with another
program memory every instruction answers the same, that memory apart; what the fetch gives is the word at `pc`
(10_state.md R45). -/
def Obligations.ProgramMemoryIsFetchedOnly : Prop :=
  (∀ (i : Instr) (s : State) (m : List (Nat × Code)),
    exec i { s with pmem := m } = onNext (fun t => { t with pmem := m }) (exec i s)) ∧
  (∀ (i : Instr) (s t : State), exec i s = .next t → t.pmem = s.pmem) ∧
  (∀ s : State, fetch s = readCell s.pmem s.pc.toNat) ∧
  (∀ s : State, MemoriesOk s → ∀ a, 4096 ≤ a → readCell s.pmem a = none)

/-- Data memory is reached by LD and ST, each of its words at its own address, and by nothing else: with another data memory
every other instruction answers the same, that memory apart; LD does not change it; its words are those of the addresses 0 to
2047, and a write of one leaves the others (10_state.md R46). -/
def Obligations.DataMemoryIsReachedByLoadAndStoreOnly : Prop :=
  (∀ (i : Instr) (s : State) (m : List (Nat × Word)), familyOf i ≠ .ld → familyOf i ≠ .st →
    exec i { s with dmem := m } = onNext (fun t => { t with dmem := m }) (exec i s)) ∧
  (∀ (i : Instr) (s t : State), familyOf i ≠ .st → exec i s = .next t → t.dmem = s.dmem) ∧
  (∀ s : State, MemoriesOk s → ∀ a, 2048 ≤ a → readCell s.dmem a = none) ∧
  (∀ (m : List (Nat × Word)) (a b : BitVec 11) (v : Word),
    dmemRead (dmemWrite m a v) b = if b = a then v else dmemRead m b) ∧
  (∀ (s : State) (d b : RegNo) (a : BitVec 11), s.x b = a.setWidth 32 →
    (∃ t, exec (.ldRL d b 0#5) s = .next t ∧ t.x d = dmemRead s.dmem a) ∧
    (∃ t, exec (.stRL d b 0#5) s = .next t ∧ t.dmem = dmemWrite s.dmem a (s.x d)))

/-- The flags are read by Bc through its condition, by LDC (C alone) and by interrupt entry, and by nothing else: with other
flags every other instruction answers the same, flags apart; LDC the same with other N, Z, V; a Bc goes the same way with
other flags that make its condition the same. LDC gives C, a Bc can go by each of N, Z, C and V, and what entry saves is the
four flags (10_state.md R37; that LDC leaves 1 or 0 is decision D11: log entry 26, that a branch wraps modulo 4096 is D4: log entry
15, and the place of the flags in the saved word is D21: log entry 12). -/
def Obligations.FlagsAreReadOnlyBy : Prop :=
  (∀ (i : Instr) (s : State) (f : Flags), familyOf i ≠ .bc → familyOf i ≠ .ldc →
    onNext (fun t => t.setFlags f) (exec i (s.setFlags f)) = onNext (fun t => t.setFlags f) (exec i s)) ∧
  (∀ (d : RegNo) (s : State) (f : Flags), f.c = s.flags.c →
    onNext (fun t => t.setFlags f) (exec (.ldc d) (s.setFlags f)) = onNext (fun t => t.setFlags f) (exec (.ldc d) s)) ∧
  (∀ (s : State) (f : Flags) (off : BitVec 10),
    (f.z = s.flags.z → exec (.beq off) (s.setFlags f) = onNext (fun t => t.setFlags f) (exec (.beq off) s) ∧
      exec (.bneq off) (s.setFlags f) = onNext (fun t => t.setFlags f) (exec (.bneq off) s)) ∧
    (f.c = s.flags.c → exec (.bcs off) (s.setFlags f) = onNext (fun t => t.setFlags f) (exec (.bcs off) s) ∧
      exec (.bcc off) (s.setFlags f) = onNext (fun t => t.setFlags f) (exec (.bcc off) s)) ∧
    (f.n = s.flags.n → exec (.bn off) (s.setFlags f) = onNext (fun t => t.setFlags f) (exec (.bn off) s) ∧
      exec (.bnn off) (s.setFlags f) = onNext (fun t => t.setFlags f) (exec (.bnn off) s)) ∧
    (f.v = s.flags.v → exec (.bv off) (s.setFlags f) = onNext (fun t => t.setFlags f) (exec (.bv off) s) ∧
      exec (.bnv off) (s.setFlags f) = onNext (fun t => t.setFlags f) (exec (.bnv off) s)) ∧
    ((f.c && !f.z) = (s.flags.c && !s.flags.z) →
      exec (.bhi off) (s.setFlags f) = onNext (fun t => t.setFlags f) (exec (.bhi off) s) ∧
      exec (.bls off) (s.setFlags f) = onNext (fun t => t.setFlags f) (exec (.bls off) s)) ∧
    ((f.n ^^ f.v) = (s.flags.n ^^ s.flags.v) →
      exec (.bgeq off) (s.setFlags f) = onNext (fun t => t.setFlags f) (exec (.bgeq off) s) ∧
      exec (.blss off) (s.setFlags f) = onNext (fun t => t.setFlags f) (exec (.blss off) s)) ∧
    (((f.n ^^ f.v) || f.z) = ((s.flags.n ^^ s.flags.v) || s.flags.z) →
      exec (.bgtr off) (s.setFlags f) = onNext (fun t => t.setFlags f) (exec (.bgtr off) s) ∧
      exec (.bleq off) (s.setFlags f) = onNext (fun t => t.setFlags f) (exec (.bleq off) s)) ∧
    exec (.bt off) (s.setFlags f) = onNext (fun t => t.setFlags f) (exec (.bt off) s) ∧
    exec (.bf off) (s.setFlags f) = onNext (fun t => t.setFlags f) (exec (.bf off) s)) ∧
  (∀ (s : State) (d : RegNo), ∃ t, exec (.ldc d) s = .next t ∧ t.x d = if s.flags.c then 1#32 else 0#32) ∧
  (∀ (s : State) (off : BitVec 10),
    (∃ t, exec (.bn off) s = .next t ∧ Branches s t s.flags.n off) ∧
    (∃ t, exec (.beq off) s = .next t ∧ Branches s t s.flags.z off) ∧
    (∃ t, exec (.bcs off) s = .next t ∧ Branches s t s.flags.c off) ∧
    (∃ t, exec (.bv off) s = .next t ∧ Branches s t s.flags.v off)) ∧
  (∀ (k : IrqSource) (s : State), savedFlags ((interruptEntry k s).rf true 15#4) = s.flags)

/-- The hardware raises no synchronous exception: no instruction faults, and where a step does not continue at `pc` + 1, it
took an interrupt or executed an instruction that transfers control (60_exceptions.md R200). -/
def Obligations.NoSynchronousException : Prop :=
  (∀ (i : Instr) (s : State) (e : Fault), exec i s ≠ .fault e) ∧
  (∀ s t : State, step s = .next t → t.pc ≠ s.pc + 1#12 →
    (∃ k, interruptNow s = some k) ∨
    ∃ i, Runs s i ∧ familyOf i ∈ [Family.blr, Family.brReg, Family.brRet, Family.bc, Family.bl])

/-- The only places where an instruction stops: LD and ST at an address without a meaning or a port the core does not have, the
bank 0 form of BR in interrupt mode and the return form outside it (70_reset_and_hazards.md R273; log entries 13, 16, 18). -/
def Obligations.InstructionsThatStop : Prop :=
  ∀ (i : Instr) (s : State) (e : Refusal), exec i s = .refused e →
    (e = .undecodedAddress ∧ ∃ ea, accessAddress s i = some ea ∧ IsUndecoded ea ∧ s.params.addrDecode = .refuse) ∨
    (e = .noSuchPort ∧ ∃ ea, accessAddress s i = some ea ∧ 2048 ≤ ea.toNat ∧ ea.toNat / 256 % 16 = 15 ∧
      portOf s.coreId (ea.setWidth 5) = none) ∨
    (e = .brBank0InInterruptMode ∧ s.intMd = true ∧ familyOf i = .brReg) ∨
    (e = .brReturnOutsideInterruptMode ∧ s.intMd = false ∧ familyOf i = .brRet)

/-- `H` is written by MUL alone: a step that changes it executed a MUL. It is read by LDH alone: with another value in it every
other instruction leaves the same, `H` apart, and MUL leaves the same `H` too. Interrupt entry saves nothing of it, and there
is one `H` for both banks (10_state.md R38). -/
def Obligations.WhoWritesAndReadsH : Prop :=
  (∀ s t : State, step s = .next t → t.h ≠ s.h → ∃ i, Runs s i ∧ familyOf i = .mul) ∧
  (∀ (i : Instr) (s : State) (v : Word), familyOf i ≠ .ldh → familyOf i ≠ .mul →
    exec i (s.setH v) = onNext (fun t => t.setH v) (exec i s)) ∧
  (∀ (i : Instr) (s : State) (v : Word), familyOf i = .mul → exec i (s.setH v) = exec i s) ∧
  (∀ (k : IrqSource) (s : State) (v : Word), interruptEntry k (s.setH v) = (interruptEntry k s).setH v) ∧
  (∀ (s : State) (d : RegNo), ∃ t, exec (.ldh d) s = .next t ∧ t.x d = s.h)

/-- `intMd` and `GIE` are written by interrupt entry and by the mode-setting and return forms of BR alone
(10_state.md R40, R41; the return's write of `intMd` by D22: log entry 13). -/
def Obligations.ModeWriters : Prop :=
  ∀ s t : State, step s = .next t → (t.intMd ≠ s.intMd ∨ t.gie ≠ s.gie) →
    (∃ k, interruptNow s = some k ∧ t.intMd = true ∧ t.gie = false) ∨
    (∃ k, Runs s (.brMode k) ∧ t.intMd = k.getLsbD 1 ∧ t.gie = k.getLsbD 0) ∨
    (∃ a, Runs s (.brRet a) ∧ t.intMd = false ∧ t.gie = true)

/-- An instruction writes no general register but its destination in the current bank, `x[d]`, or `x[15]` for BL and BLR, or
none for ST, Bc and the forms of BR; the other bank keeps its values (10_state.md R22, R23). -/
def Obligations.OnlyDestinationIsWritten : Prop :=
  ∀ (i : Instr) (s t : State), exec i s = .next t → RegsExceptOpt s.intMd (destOf i) s t

/-- Which instructions leave which flag alone (10_state.md R36, whose table is the spec's reading, D7 to D9: log entry 14):
V but for ADD, SUB and the return; C but for these and ROR; N and Z for MUL, ST, Bc and the other forms of BR. -/
def Obligations.FlagWriters : Prop :=
  ∀ (i : Instr) (s t : State), exec i s = .next t →
    (familyOf i ∉ [Family.add, Family.sub, Family.brRet] → t.flags.v = s.flags.v) ∧
    (familyOf i ∉ [Family.add, Family.sub, Family.ror, Family.brRet] → t.flags.c = s.flags.c) ∧
    (familyOf i ∈ [Family.mul, Family.st, Family.bc, Family.brReg, Family.brMode] → t.flags = s.flags)

/-- The common behaviour of AND, BIC, OR, XOR, ADD, SUB, NOT, LDH, LDC, LIT and ROR: they complete in every state, set N and Z
from the value they leave in their destination, and touch no other register, no `H` and no memory (40_logic.md R120). -/
def Obligations.RegisterInstructionsComplete : Prop :=
  ∀ (i : Instr) (s : State),
    familyOf i ∈ [Family.logic, Family.add, Family.sub, Family.not, Family.ldh, Family.ldc, Family.lit, Family.ror] →
    ∃ t d, exec i s = .next t ∧ destOf i = some d ∧ RegsExcept s.intMd d s t ∧
      t.flags.n = (t.rf s.intMd d).getLsbD 31 ∧ t.flags.z = decide (t.rf s.intMd d = 0#32) ∧
      t.h = s.h ∧ t.pc = s.pc + 1#12 ∧ OnlyComputes s t

/-- Every word of data memory but the one an ST addresses reads as before, after every instruction; an ST whose address bits
11:8 are 1111, so that it reaches a port, writes none of them (20_memory.md R65, 10_state.md R46; the classes and the aliases by
D15: log entry 16). -/
def Obligations.OnlyStoreWritesData : Prop :=
  ∀ (i : Instr) (s t : State), exec i s = .next t →
    (familyOf i ≠ .st → SameData s t) ∧
    (familyOf i = .st → ∀ ea, accessAddress s i = some ea →
      if ea.toNat / 256 % 16 = 15 then SameData s t else DataExcept (ea.setWidth 11) s t)

/-- An instruction performs at most one I/O access: an LD or ST that completes with address bits 11:8 = 1111 exactly one, of the
port of its bits 4:0, LD a read of the value the port presents and ST a write of `x[d]`, with the port's effect on the devices; any
other LD or ST and any other instruction none. So none is merged, repeated or dropped (20_memory.md R75, R64, R65; the
classes by D15: log entry 16; the trace is the model's own: log entry 24). -/
def Obligations.AtMostOneAccess : Prop :=
  (∀ (i : Instr) (s t : State), exec i s = .next t → familyOf i ≠ .ld → familyOf i ≠ .st → SameDevices s t) ∧
  (∀ (s t : State) (d b : RegNo) (o : Operand),
    let ea := s.x b + operandA s o
    (exec (ldForm d b o) s = .next t →
      if ea.toNat / 256 % 16 = 15 then
        ∃ q, portOf s.coreId (ea.setWidth 5) = some q ∧
          t.trace = s.trace ++ [.read (ea.setWidth 5) (portValue s.dev q s.ioAnswer)] ∧
          t.dev = (portReadEffect q (portValue s.dev q s.ioAnswer) s.ioAnswered).dev
      else SameDevices s t) ∧
    (exec (stForm d b o) s = .next t →
      if ea.toNat / 256 % 16 = 15 then
        ∃ q, portOf s.coreId (ea.setWidth 5) = some q ∧
          t.trace = s.trace ++ [.write (ea.setWidth 5) (s.x d)] ∧ t.dev = (portWriteEffect q (s.x d) s).dev
      else SameDevices s t))

/-- No step of a core without a device touches that device: the DDR2 interface but on core 6, RS232, Timer, LCD, LEDs and
switches but on core 11 (20_memory.md R71; D16 for the switches: log entry 18). -/
def Obligations.AbsentDevicesAreUntouched : Prop :=
  ∀ s t : State, step s = .next t →
    (s.coreId ≠ 6 → t.dev.ddr2 = s.dev.ddr2) ∧
    (s.coreId ≠ 11 → t.dev.rs232 = s.dev.rs232 ∧ t.dev.timer = s.dev.timer ∧ t.dev.lcd = s.dev.lcd ∧
      t.dev.leds = s.dev.leds ∧ t.dev.switches = s.dev.switches)

/-! ## Devices -/

/-- The netNode command register: a write sets the two interrupt enables from bits 4 and 5, clears the buffer address
registers with bit 2, hands the output buffer over with bit 1; a read gives the enables and the id, and the program knows from
its bits 0 and 1 what the buffers hold; no other device is changed (60_exceptions.md R226; log entry 20). -/
def Obligations.NetNodeCommandRegister : Prop :=
  ∀ (s : State) (v w : Word),
    let m := (portWriteEffect .netCommand v s).dev.netNode
    let r := portValue s.dev .netCommand w
    let l := (portReadEffect .netCommand r s).dev.netNode
    (portWriteEffect .netCommand v s).dev = { s.dev with netNode := m } ∧
    (portReadEffect .netCommand r s).dev = { s.dev with netNode := l } ∧
    m = { s.dev.netNode with
      enMsgIn := v.getLsbD 4, enOutEmpty := v.getLsbD 5, outFree := s.dev.netNode.outFree && !v.getLsbD 1,
      inAddr := if v.getLsbD 2 then 0#6 else s.dev.netNode.inAddr,
      outAddr := if v.getLsbD 2 then 0#6 else s.dev.netNode.outAddr } ∧
    r.extractLsb' 8 8 = s.dev.netNode.id ∧ r.getLsbD 4 = s.dev.netNode.enMsgIn ∧ r.getLsbD 5 = s.dev.netNode.enOutEmpty ∧
    (∀ i, i ∉ [4, 5, 8, 9, 10, 11, 12, 13, 14, 15] → r.getLsbD i = w.getLsbD i) ∧
    l = { s.dev.netNode with inReady := r.getLsbD 0, outFree := !r.getLsbD 1 }

/-- The netNode data register, once the program has seen the output buffer empty (a message in the input buffer) and with the
address register inside the buffer: a write puts the word at the output address, a read takes the word at the input address,
and the address increases by 1. In every case the value read is the answer from outside (R224, N12) and no other device is
changed (60_exceptions.md R227; reads by D16, one or two address registers: log entry 20). -/
def Obligations.NetNodeDataRegister : Prop :=
  ∀ (s : State) (v : Word) (k : Nat) (hk : k < 32),
    let n := s.dev.netNode
    let m := (portWriteEffect .netData v s).dev.netNode
    let l := (portReadEffect .netData v s).dev.netNode
    portValue s.dev .netData v = v ∧
    (portWriteEffect .netData v s).dev = { s.dev with netNode := m } ∧
    (portReadEffect .netData v s).dev = { s.dev with netNode := l } ∧
    (n.outFree = true → n.outAddr.toNat < 32 →
      m.outBuf[k] = (if k = n.outAddr.toNat then v else n.outBuf[k]) ∧ m.outAddr = n.outAddr + 1#6 ∧
      m.inAddr = (if s.params.bufAddr = .shared then n.outAddr + 1#6 else n.inAddr) ∧
      m.inBuf = n.inBuf ∧ m.enMsgIn = n.enMsgIn ∧ m.enOutEmpty = n.enOutEmpty ∧ m.outFree = true) ∧
    (n.inReady = true → n.inAddr.toNat < 32 →
      l.inBuf[k] = (if k = n.inAddr.toNat then v else n.inBuf[k]) ∧ l.inAddr = n.inAddr + 1#6 ∧
      l.outAddr = (if s.params.bufAddr = .shared then n.inAddr + 1#6 else n.outAddr) ∧
      l.outBuf = n.outBuf ∧ l.enMsgIn = n.enMsgIn ∧ l.enOutEmpty = n.enOutEmpty ∧ l.inReady = true)

/-- The RS232 registers: command bit 3 is the receiving interrupt's enable, bit 2 clears the data buffer, after which no byte is
ready, status bits 0 and 1 say what the program then knows; a data read after a byte was seen ready delivers it and leaves it, a
data write to a transmitter seen ready sends the low byte. In every case the value of a data read is the answer from outside and
no other device is changed (60_exceptions.md R224, R232, R233; log entry 21). -/
def Obligations.RsRegisters : Prop :=
  ∀ (s : State) (v w : Word),
    let c := s.dev.rs232
    let r := portValue s.dev .rsCommand w
    (portWriteEffect .rsCommand v s).dev = { s.dev with rs232 :=
      { c with enRx := v.getLsbD 3, rxReady := c.rxReady && !v.getLsbD 2, rxBuf := if v.getLsbD 2 then none else c.rxBuf } } ∧
    r.getLsbD 3 = c.enRx ∧ (∀ i, i ≠ 3 → r.getLsbD i = w.getLsbD i) ∧
    (portReadEffect .rsCommand r s).dev = { s.dev with rs232 :=
      { c with rxReady := r.getLsbD 0, rxBuf := if r.getLsbD 0 then c.rxBuf else none, txReady := r.getLsbD 1 } } ∧
    portValue s.dev .rsData w = w ∧
    (portReadEffect .rsData w s).dev = { s.dev with rs232 := (portReadEffect .rsData w s).dev.rs232 } ∧
    (c.rxReady = true → (portReadEffect .rsData w s).dev.rs232 = { c with rxBuf := some (w.setWidth 8) }) ∧
    (portWriteEffect .rsData v s).dev = { s.dev with rs232 := (portWriteEffect .rsData v s).dev.rs232 } ∧
    (c.txReady = true → (portWriteEffect .rsData v s).dev.rs232 = { c with txByte := v.setWidth 8, txReady := false })

/-- Timer, LCD, LEDs and switches: command bit 0 clears the Timer's counter, LCD command bits 0 to 2 are RW, RS and E and the
data register holds the data lines, the LEDs show the low 8 bits written, a read of the switches gives the 8 switches in its
low bits; every read presents the answer from outside, and no access changes another device (60_exceptions.md R224, R235, R237,
R239; the open widths, and that other reads and writes have no effect: log entry 22). -/
def Obligations.BoardRegisters : Prop :=
  ∀ (s : State) (v : Word),
    (portWriteEffect .timerCommand v s).dev = { s.dev with timer := if v.getLsbD 0 then 0#32 else s.dev.timer } ∧
    (portWriteEffect .timerData v s).dev = { s.dev with timer := (portWriteEffect .timerData v s).dev.timer } ∧
    (portWriteEffect .lcdCommand v s).dev =
      { s.dev with lcd := { s.dev.lcd with rw := v.getLsbD 0, rs := v.getLsbD 1, e := v.getLsbD 2 } } ∧
    (portWriteEffect .lcdData v s).dev = { s.dev with lcd := { s.dev.lcd with data := v } } ∧
    (portWriteEffect .ledData v s).dev = { s.dev with leds := v.setWidth 8 } ∧
    (portWriteEffect .switchInput v s).dev = s.dev ∧
    (portReadEffect .switchInput v s).dev = { s.dev with switches := v.setWidth 8 } ∧
    (portReadEffect .timerData v s).dev = { s.dev with timer := v } ∧
    (∀ q, q ∈ [Port.timerCommand, Port.lcdData, Port.lcdCommand, Port.ledData] → (portReadEffect q v s).dev = s.dev) ∧
    (∀ q, q ∈ [Port.timerData, Port.timerCommand, Port.lcdData, Port.lcdCommand, Port.ledData, Port.switchInput] →
      portValue s.dev q v = v)

/-- The DDR2 registers, used after the status bit that the protocol names was seen 1: a command goes to AF with its block
address and direction and resets the word index; a data write puts the word at the index, a data read presents the word of the
read buffer at the index and leaves the buffer, and the index advances modulo 8; the eighth word written sends the block to WB, the
eighth read uses the block up. A status read presents the answer from outside and takes bits 28 to 31 from it; meanwhile `k`
commands left AF and `m` blocks WB, a block came into RB for each read among those commands (or one that is not accounted for,
where bit 30 announces a block and there is no other), and the oldest block of RB moved to the read buffer where bit 30 is 1 and
the buffer had no block, never where bit 30 is 0. No access changes another device (60_exceptions.md R240 to R242; the index by the
spec's derivation, the FIFOs, what uses a block up, and what the controller does meanwhile: log entry 23). -/
def Obligations.DdrRegisters : Prop :=
  ∀ (s : State) (v : Word) (j : Nat) (hj : j < 8),
    let x := s.dev.ddr2
    let m := (portWriteEffect .ddrData v s).dev.ddr2
    let l := (portReadEffect .ddrCommand v s).dev.ddr2
    (x.afReady = true → (portWriteEffect .ddrCommand v s).dev.ddr2 =
      { x with af := x.af ++ [{ block := v.setWidth 23, read := v.getLsbD 23 }], afReady := false, index := 0#3 }) ∧
    (x.wbReady = true →
      m.writeBuf[j] = (if j = x.index.toNat then v else x.writeBuf[j]) ∧ m.index.toNat = (x.index.toNat + 1) % 8 ∧
      m.wb = (if x.index.toNat = 7 then x.wb ++ [m.writeBuf] else x.wb) ∧
      m.readBuf = x.readBuf ∧ m.rb = x.rb ∧ m.af = x.af) ∧
    (x.rbReady = true →
      (x.index.toNat = j → portValue s.dev .ddrData v = x.readBuf[j]) ∧
      (portReadEffect .ddrData v s).dev.ddr2 =
        { x with index := x.index + 1#3, rbReady := decide (x.index.toNat ≠ 7) }) ∧
    (x.rbReady = false → portValue s.dev .ddrData v = v) ∧
    portValue s.dev .ddrCommand v = v ∧
    l.afReady = v.getLsbD 28 ∧ l.wbReady = v.getLsbD 29 ∧ l.rbReady = v.getLsbD 30 ∧ l.calFail = v.getLsbD 31 ∧
    l.writeBuf = x.writeBuf ∧ l.index = x.index ∧
    (∃ k m blocks, l.af = x.af.drop k ∧ l.wb = x.wb.drop m ∧
      (blocks.length = ((x.af.take k).filter (·.read)).length ∨
        (blocks.length = 1 ∧ v.getLsbD 30 = true ∧ x.rbReady = false ∧ x.rb = [])) ∧
      ((v.getLsbD 30 = true ∧ l.readBuf :: l.rb = x.rb ++ blocks) ∨
        ((v.getLsbD 30 = true → x.rbReady = true) ∧ l.readBuf = x.readBuf ∧ l.rb = x.rb ++ blocks))) ∧
    (∀ q, q ∈ [Port.ddrData, Port.ddrCommand] →
      (portWriteEffect q v s).dev = { s.dev with ddr2 := (portWriteEffect q v s).dev.ddr2 } ∧
      (portReadEffect q v s).dev = { s.dev with ddr2 := (portReadEffect q v s).dev.ddr2 })

/-! ## Start -/

/-- The machine at start: `pc`, `intMd` and `GIE` are 0 (the spec's decisions D1 and D2: log entry 4); nothing is loaded or
written and nothing was accessed (log entries 6 to 8); the registers, `H` and the flags are 0, which is the model's choice and
not the spec's (log entry 3); NOT_MODE is `negate` and ADDR_DECODE `refuse`, the spec's defaults of two open parameters (D12, D15),
which the model chose for the state at start (log entry 2). -/
def Obligations.StateAtStart : Prop :=
  State.reset.pc = 0#12 ∧ State.reset.intMd = false ∧ State.reset.gie = false ∧
  State.reset.pmem = [] ∧ State.reset.dmem = [] ∧ State.reset.trace = [] ∧
  (∀ k i, State.reset.rf k i = 0#32) ∧ State.reset.h = 0#32 ∧
  State.reset.flags = { n := false, z := false, c := false, v := false } ∧
  State.reset.params.notMode = .negate ∧ State.reset.params.addrDecode = .refuse
end

