-- ==== Sys2Proof/Laws/Decode.lean ====
section
/-! SUPPORT. The fields of the four formats (30_encoding.md R91 to R94): what each field of a word so built reads. -/

namespace Sys2Proof

/-! ## Literal form -/

theorem opField_formRL (op d b : BitVec 4) (n : BitVec 5) : opField (formRL op d b n) = op := by
  apply BitVec.eq_of_getLsbD_eq
  intro i hi
  simp only [opField, formRL]
  rw [BitVec.getLsbD_extractLsb', BitVec.getLsbD_append (n := 13) (m := 5)]
  simp only [BitVec.getLsbD_append]
  interval_cases i <;> simp

theorem dField_formRL (op d b : BitVec 4) (n : BitVec 5) : dField (formRL op d b n) = d := by
  apply BitVec.eq_of_getLsbD_eq
  intro i hi
  simp only [dField, formRL]
  rw [BitVec.getLsbD_extractLsb', BitVec.getLsbD_append (n := 13) (m := 5)]
  simp only [BitVec.getLsbD_append]
  interval_cases i <;> simp

theorem bField_formRL (op d b : BitVec 4) (n : BitVec 5) : bField (formRL op d b n) = b := by
  apply BitVec.eq_of_getLsbD_eq
  intro i hi
  simp only [bField, formRL]
  rw [BitVec.getLsbD_extractLsb', BitVec.getLsbD_append (n := 13) (m := 5)]
  simp only [BitVec.getLsbD_append]
  interval_cases i <;> simp

theorem lit5_formRL (op d b : BitVec 4) (n : BitVec 5) : lit5 (formRL op d b n) = n := by
  apply BitVec.eq_of_getLsbD_eq
  intro i hi
  simp only [lit5, formRL]
  rw [BitVec.getLsbD_extractLsb', BitVec.getLsbD_append (n := 13) (m := 5)]
  simp only [BitVec.getLsbD_append]
  interval_cases i <;> simp

theorem sBit_formRL (op d b : BitVec 4) (n : BitVec 5) : sBit (formRL op d b n) = false := by
  simp only [sBit, formRL]
  rw [BitVec.getLsbD_append (n := 13) (m := 5)]
  simp only [BitVec.getLsbD_append]
  simp

/-! ## Register form -/

theorem opField_formRR (op d b : BitVec 4) (t : BitVec 1) (a : BitVec 4) : opField (formRR op d b t a) = op := by
  apply BitVec.eq_of_getLsbD_eq
  intro i hi
  simp only [opField, formRR]
  rw [BitVec.getLsbD_extractLsb', BitVec.getLsbD_append (n := 14) (m := 4)]
  simp only [BitVec.getLsbD_append]
  interval_cases i <;> simp

theorem dField_formRR (op d b : BitVec 4) (t : BitVec 1) (a : BitVec 4) : dField (formRR op d b t a) = d := by
  apply BitVec.eq_of_getLsbD_eq
  intro i hi
  simp only [dField, formRR]
  rw [BitVec.getLsbD_extractLsb', BitVec.getLsbD_append (n := 14) (m := 4)]
  simp only [BitVec.getLsbD_append]
  interval_cases i <;> simp

theorem bField_formRR (op d b : BitVec 4) (t : BitVec 1) (a : BitVec 4) : bField (formRR op d b t a) = b := by
  apply BitVec.eq_of_getLsbD_eq
  intro i hi
  simp only [bField, formRR]
  rw [BitVec.getLsbD_extractLsb', BitVec.getLsbD_append (n := 14) (m := 4)]
  simp only [BitVec.getLsbD_append]
  interval_cases i <;> simp

theorem aField_formRR (op d b : BitVec 4) (t : BitVec 1) (a : BitVec 4) : aField (formRR op d b t a) = a := by
  apply BitVec.eq_of_getLsbD_eq
  intro i hi
  simp only [aField, formRR]
  rw [BitVec.getLsbD_extractLsb', BitVec.getLsbD_append (n := 14) (m := 4)]
  simp only [BitVec.getLsbD_append]
  interval_cases i <;> simp

theorem sBit_formRR (op d b : BitVec 4) (t : BitVec 1) (a : BitVec 4) : sBit (formRR op d b t a) = true := by
  simp only [sBit, formRR]
  rw [BitVec.getLsbD_append (n := 14) (m := 4)]
  simp only [BitVec.getLsbD_append]
  simp

theorem tBit_formRR (op d b : BitVec 4) (t : BitVec 1) (a : BitVec 4) : tBit (formRR op d b t a) = t.getLsbD 0 := by
  simp only [tBit, formRR]
  rw [BitVec.getLsbD_append (n := 14) (m := 4)]
  simp only [BitVec.getLsbD_append]
  simp

/-! ## Long literals -/

theorem opField_formL (op d : BitVec 4) (n : BitVec 10) : opField (formL op d n) = op := by
  apply BitVec.eq_of_getLsbD_eq
  intro i hi
  simp only [opField, formL]
  rw [BitVec.getLsbD_extractLsb', BitVec.getLsbD_append (n := 8) (m := 10)]
  simp only [BitVec.getLsbD_append]
  interval_cases i <;> simp

theorem dField_formL (op d : BitVec 4) (n : BitVec 10) : dField (formL op d n) = d := by
  apply BitVec.eq_of_getLsbD_eq
  intro i hi
  simp only [dField, formL]
  rw [BitVec.getLsbD_extractLsb', BitVec.getLsbD_append (n := 8) (m := 10)]
  simp only [BitVec.getLsbD_append]
  interval_cases i <;> simp

theorem lit10_formL (op d : BitVec 4) (n : BitVec 10) : lit10 (formL op d n) = n := by
  apply BitVec.eq_of_getLsbD_eq
  intro i hi
  simp only [lit10, formL]
  rw [BitVec.getLsbD_extractLsb', BitVec.getLsbD_append (n := 8) (m := 10)]
  simp only [BitVec.getLsbD_append]
  interval_cases i <;> simp

theorem opField_formB (op : BitVec 4) (n : BitVec 14) : opField (formB op n) = op := by
  apply BitVec.eq_of_getLsbD_eq
  intro i hi
  simp only [opField, formB]
  rw [BitVec.getLsbD_extractLsb', BitVec.getLsbD_append (n := 4) (m := 14)]
  interval_cases i <;> simp

theorem lit14_formB (op : BitVec 4) (n : BitVec 14) : lit14 (formB op n) = n := by
  apply BitVec.eq_of_getLsbD_eq
  intro i hi
  simp only [lit14, formB]
  rw [BitVec.getLsbD_extractLsb', BitVec.getLsbD_append (n := 4) (m := 14)]
  interval_cases i <;> simp

/-! ## The mode-setting form -/

theorem kField_formRL (op d b : BitVec 4) (k : BitVec 2) : kField (formRL op d b (0#3 ++ k)) = k := by
  apply BitVec.eq_of_getLsbD_eq
  intro i hi
  simp only [kField, formRL]
  rw [BitVec.getLsbD_extractLsb', BitVec.getLsbD_append (n := 13) (m := 5)]
  simp only [BitVec.getLsbD_append]
  interval_cases i <;> simp

end Sys2Proof
end

