-- ==== Sys2Proof/Laws/Memory.lean ====
section
/-! SUPPORT. The laws of the two memories: a read after a write, and that a write keeps the canonical form. -/

namespace Sys2Proof.Machine

variable {α : Type}

/-- A word read after a word was written: what was written at that address, and elsewhere what was there. -/
theorem readCell_writeCell (m : List (Nat × α)) (a b : Nat) (v : α) :
    readCell (writeCell m a v) b = if b = a then some v else readCell m b := by
  induction m with
  | nil => simp [writeCell, readCell]
  | cons c rest ih =>
    obtain ⟨k, w⟩ := c
    unfold writeCell
    split
    · simp only [readCell]
    · split
      · next e => subst e; simp only [readCell]; split <;> simp_all
      · next n1 n2 =>
        simp only [readCell, ih]
        by_cases e : b = k
        · subst e; simp [Ne.symm n2]
        · simp [e]

theorem cellsWithin_mono {lo lo' hi : Nat} {m : List (Nat × α)} (h : cellsWithin lo hi m = true) (hl : lo' ≤ lo) :
    cellsWithin lo' hi m = true := by
  cases m with
  | nil => rfl
  | cons c rest =>
    obtain ⟨k, w⟩ := c
    simp only [cellsWithin, Bool.and_eq_true, decide_eq_true_eq] at h ⊢
    exact ⟨⟨by omega, h.1.2⟩, h.2⟩

theorem writeCell_keeps_cellsWithin {lo hi : Nat} {m : List (Nat × α)} {a : Nat} (v : α)
    (h : cellsWithin lo hi m = true) (hl : lo ≤ a) (ha : a < hi) : cellsWithin lo hi (writeCell m a v) = true := by
  induction m generalizing lo with
  | nil => simp [writeCell, cellsWithin, hl, ha]
  | cons c rest ih =>
    obtain ⟨k, w⟩ := c
    have h' := h
    simp only [cellsWithin, Bool.and_eq_true, decide_eq_true_eq] at h
    unfold writeCell
    split
    · simp only [cellsWithin, Bool.and_eq_true, decide_eq_true_eq]
      exact ⟨⟨hl, ha⟩, ⟨by omega, h.1.2⟩, h.2⟩
    · split
      · next e => subst e; simp only [cellsWithin, Bool.and_eq_true, decide_eq_true_eq]; exact h
      · simp only [cellsWithin, Bool.and_eq_true, decide_eq_true_eq]
        exact ⟨h.1, ih h.2 (by omega)⟩

/-- A write inside the memory keeps the canonical form. -/
theorem writeCell_keeps_wf {size : Nat} {m : List (Nat × α)} {a : Nat} (v : α) (h : Memory.wf size m = true) (ha : a < size) :
    Memory.wf size (writeCell m a v) = true :=
  writeCell_keeps_cellsWithin v h (Nat.zero_le a) ha

/-- A data word read after a data word was written (20_memory.md R80). -/
theorem dmemRead_dmemWrite (m : List (Nat × Word)) (a b : BitVec 11) (v : Word) :
    dmemRead (dmemWrite m a v) b = if b = a then v else dmemRead m b := by
  unfold dmemRead dmemWrite
  rw [readCell_writeCell]
  by_cases e : b = a
  · subst e; simp
  · have : b.toNat ≠ a.toNat := fun he => e (BitVec.eq_of_toNat_eq he)
    simp [this, e]

/-- A write of a data word keeps the canonical form. -/
theorem dmemWrite_keeps_wf {m : List (Nat × Word)} (h : Memory.wf dmemWords m = true) (a : BitVec 11) (v : Word) :
    Memory.wf dmemWords (dmemWrite m a v) = true :=
  writeCell_keeps_wf v h a.isLt

end Sys2Proof.Machine
end

