-- ==== Sys2Proof/Laws/State.lean ====
section
/-! SUPPORT. One lemma per field per update of State, and what a register reads after an update. -/

namespace Sys2Proof.Machine

/-! ## `setRf` and `setX` -/

@[simp] theorem State.setRf_coreId (s : State) (k : Bool) (i : RegNo) (v : Word) : (s.setRf k i v).coreId = s.coreId := by cases k <;> rfl
@[simp] theorem State.setRf_params (s : State) (k : Bool) (i : RegNo) (v : Word) : (s.setRf k i v).params = s.params := by cases k <;> rfl
@[simp] theorem State.setRf_pc (s : State) (k : Bool) (i : RegNo) (v : Word) : (s.setRf k i v).pc = s.pc := by cases k <;> rfl
@[simp] theorem State.setRf_flags (s : State) (k : Bool) (i : RegNo) (v : Word) : (s.setRf k i v).flags = s.flags := by cases k <;> rfl
@[simp] theorem State.setRf_h (s : State) (k : Bool) (i : RegNo) (v : Word) : (s.setRf k i v).h = s.h := by cases k <;> rfl
@[simp] theorem State.setRf_intMd (s : State) (k : Bool) (i : RegNo) (v : Word) : (s.setRf k i v).intMd = s.intMd := by cases k <;> rfl
@[simp] theorem State.setRf_gie (s : State) (k : Bool) (i : RegNo) (v : Word) : (s.setRf k i v).gie = s.gie := by cases k <;> rfl
@[simp] theorem State.setRf_pmem (s : State) (k : Bool) (i : RegNo) (v : Word) : (s.setRf k i v).pmem = s.pmem := by cases k <;> rfl
@[simp] theorem State.setRf_dmem (s : State) (k : Bool) (i : RegNo) (v : Word) : (s.setRf k i v).dmem = s.dmem := by cases k <;> rfl
@[simp] theorem State.setRf_dev (s : State) (k : Bool) (i : RegNo) (v : Word) : (s.setRf k i v).dev = s.dev := by cases k <;> rfl
@[simp] theorem State.setRf_oracle (s : State) (k : Bool) (i : RegNo) (v : Word) : (s.setRf k i v).oracle = s.oracle := by cases k <;> rfl
@[simp] theorem State.setRf_trace (s : State) (k : Bool) (i : RegNo) (v : Word) : (s.setRf k i v).trace = s.trace := by cases k <;> rfl
@[simp] theorem State.setX_coreId (s : State) (i : RegNo) (v : Word) : (s.setX i v).coreId = s.coreId := by simp [State.setX]
@[simp] theorem State.setX_params (s : State) (i : RegNo) (v : Word) : (s.setX i v).params = s.params := by simp [State.setX]
@[simp] theorem State.setX_pc (s : State) (i : RegNo) (v : Word) : (s.setX i v).pc = s.pc := by simp [State.setX]
@[simp] theorem State.setX_flags (s : State) (i : RegNo) (v : Word) : (s.setX i v).flags = s.flags := by simp [State.setX]
@[simp] theorem State.setX_h (s : State) (i : RegNo) (v : Word) : (s.setX i v).h = s.h := by simp [State.setX]
@[simp] theorem State.setX_intMd (s : State) (i : RegNo) (v : Word) : (s.setX i v).intMd = s.intMd := by simp [State.setX]
@[simp] theorem State.setX_gie (s : State) (i : RegNo) (v : Word) : (s.setX i v).gie = s.gie := by simp [State.setX]
@[simp] theorem State.setX_pmem (s : State) (i : RegNo) (v : Word) : (s.setX i v).pmem = s.pmem := by simp [State.setX]
@[simp] theorem State.setX_dmem (s : State) (i : RegNo) (v : Word) : (s.setX i v).dmem = s.dmem := by simp [State.setX]
@[simp] theorem State.setX_dev (s : State) (i : RegNo) (v : Word) : (s.setX i v).dev = s.dev := by simp [State.setX]
@[simp] theorem State.setX_oracle (s : State) (i : RegNo) (v : Word) : (s.setX i v).oracle = s.oracle := by simp [State.setX]
@[simp] theorem State.setX_trace (s : State) (i : RegNo) (v : Word) : (s.setX i v).trace = s.trace := by simp [State.setX]

/-! ## Updates of one piece of state -/

@[simp] theorem State.setPc_coreId (s : State) (t : PAddr) : (s.setPc t).coreId = s.coreId := rfl
@[simp] theorem State.setPc_params (s : State) (t : PAddr) : (s.setPc t).params = s.params := rfl
@[simp] theorem State.setPc_bank0 (s : State) (t : PAddr) : (s.setPc t).bank0 = s.bank0 := rfl
@[simp] theorem State.setPc_bank1 (s : State) (t : PAddr) : (s.setPc t).bank1 = s.bank1 := rfl
@[simp] theorem State.setPc_pc (s : State) (t : PAddr) : (s.setPc t).pc = t := rfl
@[simp] theorem State.setPc_flags (s : State) (t : PAddr) : (s.setPc t).flags = s.flags := rfl
@[simp] theorem State.setPc_h (s : State) (t : PAddr) : (s.setPc t).h = s.h := rfl
@[simp] theorem State.setPc_intMd (s : State) (t : PAddr) : (s.setPc t).intMd = s.intMd := rfl
@[simp] theorem State.setPc_gie (s : State) (t : PAddr) : (s.setPc t).gie = s.gie := rfl
@[simp] theorem State.setPc_pmem (s : State) (t : PAddr) : (s.setPc t).pmem = s.pmem := rfl
@[simp] theorem State.setPc_dmem (s : State) (t : PAddr) : (s.setPc t).dmem = s.dmem := rfl
@[simp] theorem State.setPc_dev (s : State) (t : PAddr) : (s.setPc t).dev = s.dev := rfl
@[simp] theorem State.setPc_oracle (s : State) (t : PAddr) : (s.setPc t).oracle = s.oracle := rfl
@[simp] theorem State.setPc_trace (s : State) (t : PAddr) : (s.setPc t).trace = s.trace := rfl
@[simp] theorem State.advance_coreId (s : State) : (s.advance).coreId = s.coreId := rfl
@[simp] theorem State.advance_params (s : State) : (s.advance).params = s.params := rfl
@[simp] theorem State.advance_bank0 (s : State) : (s.advance).bank0 = s.bank0 := rfl
@[simp] theorem State.advance_bank1 (s : State) : (s.advance).bank1 = s.bank1 := rfl
@[simp] theorem State.advance_pc (s : State) : (s.advance).pc = s.pc + 1#12 := rfl
@[simp] theorem State.advance_flags (s : State) : (s.advance).flags = s.flags := rfl
@[simp] theorem State.advance_h (s : State) : (s.advance).h = s.h := rfl
@[simp] theorem State.advance_intMd (s : State) : (s.advance).intMd = s.intMd := rfl
@[simp] theorem State.advance_gie (s : State) : (s.advance).gie = s.gie := rfl
@[simp] theorem State.advance_pmem (s : State) : (s.advance).pmem = s.pmem := rfl
@[simp] theorem State.advance_dmem (s : State) : (s.advance).dmem = s.dmem := rfl
@[simp] theorem State.advance_dev (s : State) : (s.advance).dev = s.dev := rfl
@[simp] theorem State.advance_oracle (s : State) : (s.advance).oracle = s.oracle := rfl
@[simp] theorem State.advance_trace (s : State) : (s.advance).trace = s.trace := rfl
@[simp] theorem State.setFlags_coreId (s : State) (f : Flags) : (s.setFlags f).coreId = s.coreId := rfl
@[simp] theorem State.setFlags_params (s : State) (f : Flags) : (s.setFlags f).params = s.params := rfl
@[simp] theorem State.setFlags_bank0 (s : State) (f : Flags) : (s.setFlags f).bank0 = s.bank0 := rfl
@[simp] theorem State.setFlags_bank1 (s : State) (f : Flags) : (s.setFlags f).bank1 = s.bank1 := rfl
@[simp] theorem State.setFlags_pc (s : State) (f : Flags) : (s.setFlags f).pc = s.pc := rfl
@[simp] theorem State.setFlags_flags (s : State) (f : Flags) : (s.setFlags f).flags = f := rfl
@[simp] theorem State.setFlags_h (s : State) (f : Flags) : (s.setFlags f).h = s.h := rfl
@[simp] theorem State.setFlags_intMd (s : State) (f : Flags) : (s.setFlags f).intMd = s.intMd := rfl
@[simp] theorem State.setFlags_gie (s : State) (f : Flags) : (s.setFlags f).gie = s.gie := rfl
@[simp] theorem State.setFlags_pmem (s : State) (f : Flags) : (s.setFlags f).pmem = s.pmem := rfl
@[simp] theorem State.setFlags_dmem (s : State) (f : Flags) : (s.setFlags f).dmem = s.dmem := rfl
@[simp] theorem State.setFlags_dev (s : State) (f : Flags) : (s.setFlags f).dev = s.dev := rfl
@[simp] theorem State.setFlags_oracle (s : State) (f : Flags) : (s.setFlags f).oracle = s.oracle := rfl
@[simp] theorem State.setFlags_trace (s : State) (f : Flags) : (s.setFlags f).trace = s.trace := rfl
@[simp] theorem State.setH_coreId (s : State) (v : Word) : (s.setH v).coreId = s.coreId := rfl
@[simp] theorem State.setH_params (s : State) (v : Word) : (s.setH v).params = s.params := rfl
@[simp] theorem State.setH_bank0 (s : State) (v : Word) : (s.setH v).bank0 = s.bank0 := rfl
@[simp] theorem State.setH_bank1 (s : State) (v : Word) : (s.setH v).bank1 = s.bank1 := rfl
@[simp] theorem State.setH_pc (s : State) (v : Word) : (s.setH v).pc = s.pc := rfl
@[simp] theorem State.setH_flags (s : State) (v : Word) : (s.setH v).flags = s.flags := rfl
@[simp] theorem State.setH_h (s : State) (v : Word) : (s.setH v).h = v := rfl
@[simp] theorem State.setH_intMd (s : State) (v : Word) : (s.setH v).intMd = s.intMd := rfl
@[simp] theorem State.setH_gie (s : State) (v : Word) : (s.setH v).gie = s.gie := rfl
@[simp] theorem State.setH_pmem (s : State) (v : Word) : (s.setH v).pmem = s.pmem := rfl
@[simp] theorem State.setH_dmem (s : State) (v : Word) : (s.setH v).dmem = s.dmem := rfl
@[simp] theorem State.setH_dev (s : State) (v : Word) : (s.setH v).dev = s.dev := rfl
@[simp] theorem State.setH_oracle (s : State) (v : Word) : (s.setH v).oracle = s.oracle := rfl
@[simp] theorem State.setH_trace (s : State) (v : Word) : (s.setH v).trace = s.trace := rfl
@[simp] theorem State.setMode_coreId (s : State) (b : Bool) (e : Bool) : (s.setMode b e).coreId = s.coreId := rfl
@[simp] theorem State.setMode_params (s : State) (b : Bool) (e : Bool) : (s.setMode b e).params = s.params := rfl
@[simp] theorem State.setMode_bank0 (s : State) (b : Bool) (e : Bool) : (s.setMode b e).bank0 = s.bank0 := rfl
@[simp] theorem State.setMode_bank1 (s : State) (b : Bool) (e : Bool) : (s.setMode b e).bank1 = s.bank1 := rfl
@[simp] theorem State.setMode_pc (s : State) (b : Bool) (e : Bool) : (s.setMode b e).pc = s.pc := rfl
@[simp] theorem State.setMode_flags (s : State) (b : Bool) (e : Bool) : (s.setMode b e).flags = s.flags := rfl
@[simp] theorem State.setMode_h (s : State) (b : Bool) (e : Bool) : (s.setMode b e).h = s.h := rfl
@[simp] theorem State.setMode_intMd (s : State) (b : Bool) (e : Bool) : (s.setMode b e).intMd = b := rfl
@[simp] theorem State.setMode_gie (s : State) (b : Bool) (e : Bool) : (s.setMode b e).gie = e := rfl
@[simp] theorem State.setMode_pmem (s : State) (b : Bool) (e : Bool) : (s.setMode b e).pmem = s.pmem := rfl
@[simp] theorem State.setMode_dmem (s : State) (b : Bool) (e : Bool) : (s.setMode b e).dmem = s.dmem := rfl
@[simp] theorem State.setMode_dev (s : State) (b : Bool) (e : Bool) : (s.setMode b e).dev = s.dev := rfl
@[simp] theorem State.setMode_oracle (s : State) (b : Bool) (e : Bool) : (s.setMode b e).oracle = s.oracle := rfl
@[simp] theorem State.setMode_trace (s : State) (b : Bool) (e : Bool) : (s.setMode b e).trace = s.trace := rfl
@[simp] theorem State.storeWord_coreId (s : State) (a : BitVec 11) (v : Word) : (s.storeWord a v).coreId = s.coreId := rfl
@[simp] theorem State.storeWord_params (s : State) (a : BitVec 11) (v : Word) : (s.storeWord a v).params = s.params := rfl
@[simp] theorem State.storeWord_bank0 (s : State) (a : BitVec 11) (v : Word) : (s.storeWord a v).bank0 = s.bank0 := rfl
@[simp] theorem State.storeWord_bank1 (s : State) (a : BitVec 11) (v : Word) : (s.storeWord a v).bank1 = s.bank1 := rfl
@[simp] theorem State.storeWord_pc (s : State) (a : BitVec 11) (v : Word) : (s.storeWord a v).pc = s.pc := rfl
@[simp] theorem State.storeWord_flags (s : State) (a : BitVec 11) (v : Word) : (s.storeWord a v).flags = s.flags := rfl
@[simp] theorem State.storeWord_h (s : State) (a : BitVec 11) (v : Word) : (s.storeWord a v).h = s.h := rfl
@[simp] theorem State.storeWord_intMd (s : State) (a : BitVec 11) (v : Word) : (s.storeWord a v).intMd = s.intMd := rfl
@[simp] theorem State.storeWord_gie (s : State) (a : BitVec 11) (v : Word) : (s.storeWord a v).gie = s.gie := rfl
@[simp] theorem State.storeWord_pmem (s : State) (a : BitVec 11) (v : Word) : (s.storeWord a v).pmem = s.pmem := rfl
@[simp] theorem State.storeWord_dmem (s : State) (a : BitVec 11) (v : Word) : (s.storeWord a v).dmem = dmemWrite s.dmem a v := rfl
@[simp] theorem State.storeWord_dev (s : State) (a : BitVec 11) (v : Word) : (s.storeWord a v).dev = s.dev := rfl
@[simp] theorem State.storeWord_oracle (s : State) (a : BitVec 11) (v : Word) : (s.storeWord a v).oracle = s.oracle := rfl
@[simp] theorem State.storeWord_trace (s : State) (a : BitVec 11) (v : Word) : (s.storeWord a v).trace = s.trace := rfl
@[simp] theorem State.setDev_coreId (s : State) (d : Devices) : (s.setDev d).coreId = s.coreId := rfl
@[simp] theorem State.setDev_params (s : State) (d : Devices) : (s.setDev d).params = s.params := rfl
@[simp] theorem State.setDev_bank0 (s : State) (d : Devices) : (s.setDev d).bank0 = s.bank0 := rfl
@[simp] theorem State.setDev_bank1 (s : State) (d : Devices) : (s.setDev d).bank1 = s.bank1 := rfl
@[simp] theorem State.setDev_pc (s : State) (d : Devices) : (s.setDev d).pc = s.pc := rfl
@[simp] theorem State.setDev_flags (s : State) (d : Devices) : (s.setDev d).flags = s.flags := rfl
@[simp] theorem State.setDev_h (s : State) (d : Devices) : (s.setDev d).h = s.h := rfl
@[simp] theorem State.setDev_intMd (s : State) (d : Devices) : (s.setDev d).intMd = s.intMd := rfl
@[simp] theorem State.setDev_gie (s : State) (d : Devices) : (s.setDev d).gie = s.gie := rfl
@[simp] theorem State.setDev_pmem (s : State) (d : Devices) : (s.setDev d).pmem = s.pmem := rfl
@[simp] theorem State.setDev_dmem (s : State) (d : Devices) : (s.setDev d).dmem = s.dmem := rfl
@[simp] theorem State.setDev_dev (s : State) (d : Devices) : (s.setDev d).dev = d := rfl
@[simp] theorem State.setDev_oracle (s : State) (d : Devices) : (s.setDev d).oracle = s.oracle := rfl
@[simp] theorem State.setDev_trace (s : State) (d : Devices) : (s.setDev d).trace = s.trace := rfl
@[simp] theorem State.setOracle_coreId (s : State) (o : Oracle) : (s.setOracle o).coreId = s.coreId := rfl
@[simp] theorem State.setOracle_params (s : State) (o : Oracle) : (s.setOracle o).params = s.params := rfl
@[simp] theorem State.setOracle_bank0 (s : State) (o : Oracle) : (s.setOracle o).bank0 = s.bank0 := rfl
@[simp] theorem State.setOracle_bank1 (s : State) (o : Oracle) : (s.setOracle o).bank1 = s.bank1 := rfl
@[simp] theorem State.setOracle_pc (s : State) (o : Oracle) : (s.setOracle o).pc = s.pc := rfl
@[simp] theorem State.setOracle_flags (s : State) (o : Oracle) : (s.setOracle o).flags = s.flags := rfl
@[simp] theorem State.setOracle_h (s : State) (o : Oracle) : (s.setOracle o).h = s.h := rfl
@[simp] theorem State.setOracle_intMd (s : State) (o : Oracle) : (s.setOracle o).intMd = s.intMd := rfl
@[simp] theorem State.setOracle_gie (s : State) (o : Oracle) : (s.setOracle o).gie = s.gie := rfl
@[simp] theorem State.setOracle_pmem (s : State) (o : Oracle) : (s.setOracle o).pmem = s.pmem := rfl
@[simp] theorem State.setOracle_dmem (s : State) (o : Oracle) : (s.setOracle o).dmem = s.dmem := rfl
@[simp] theorem State.setOracle_dev (s : State) (o : Oracle) : (s.setOracle o).dev = s.dev := rfl
@[simp] theorem State.setOracle_oracle (s : State) (o : Oracle) : (s.setOracle o).oracle = o := rfl
@[simp] theorem State.setOracle_trace (s : State) (o : Oracle) : (s.setOracle o).trace = s.trace := rfl
@[simp] theorem State.note_coreId (s : State) (e : IoEvent) : (s.note e).coreId = s.coreId := rfl
@[simp] theorem State.note_params (s : State) (e : IoEvent) : (s.note e).params = s.params := rfl
@[simp] theorem State.note_bank0 (s : State) (e : IoEvent) : (s.note e).bank0 = s.bank0 := rfl
@[simp] theorem State.note_bank1 (s : State) (e : IoEvent) : (s.note e).bank1 = s.bank1 := rfl
@[simp] theorem State.note_pc (s : State) (e : IoEvent) : (s.note e).pc = s.pc := rfl
@[simp] theorem State.note_flags (s : State) (e : IoEvent) : (s.note e).flags = s.flags := rfl
@[simp] theorem State.note_h (s : State) (e : IoEvent) : (s.note e).h = s.h := rfl
@[simp] theorem State.note_intMd (s : State) (e : IoEvent) : (s.note e).intMd = s.intMd := rfl
@[simp] theorem State.note_gie (s : State) (e : IoEvent) : (s.note e).gie = s.gie := rfl
@[simp] theorem State.note_pmem (s : State) (e : IoEvent) : (s.note e).pmem = s.pmem := rfl
@[simp] theorem State.note_dmem (s : State) (e : IoEvent) : (s.note e).dmem = s.dmem := rfl
@[simp] theorem State.note_dev (s : State) (e : IoEvent) : (s.note e).dev = s.dev := rfl
@[simp] theorem State.note_oracle (s : State) (e : IoEvent) : (s.note e).oracle = s.oracle := rfl
@[simp] theorem State.note_trace (s : State) (e : IoEvent) : (s.note e).trace = s.trace ++ [e] := rfl

/-! ## Free values and answers -/

@[simp] theorem State.drawn_coreId (s : State) : (s.drawn).coreId = s.coreId := rfl
@[simp] theorem State.drawn_params (s : State) : (s.drawn).params = s.params := rfl
@[simp] theorem State.drawn_bank0 (s : State) : (s.drawn).bank0 = s.bank0 := rfl
@[simp] theorem State.drawn_bank1 (s : State) : (s.drawn).bank1 = s.bank1 := rfl
@[simp] theorem State.drawn_pc (s : State) : (s.drawn).pc = s.pc := rfl
@[simp] theorem State.drawn_flags (s : State) : (s.drawn).flags = s.flags := rfl
@[simp] theorem State.drawn_h (s : State) : (s.drawn).h = s.h := rfl
@[simp] theorem State.drawn_intMd (s : State) : (s.drawn).intMd = s.intMd := rfl
@[simp] theorem State.drawn_gie (s : State) : (s.drawn).gie = s.gie := rfl
@[simp] theorem State.drawn_pmem (s : State) : (s.drawn).pmem = s.pmem := rfl
@[simp] theorem State.drawn_dmem (s : State) : (s.drawn).dmem = s.dmem := rfl
@[simp] theorem State.drawn_dev (s : State) : (s.drawn).dev = s.dev := rfl
@[simp] theorem State.drawn_oracle (s : State) : (s.drawn).oracle = s.oracle.drawn := rfl
@[simp] theorem State.drawn_trace (s : State) : (s.drawn).trace = s.trace := rfl
@[simp] theorem State.ioAnswered_coreId (s : State) : (s.ioAnswered).coreId = s.coreId := by unfold State.ioAnswered; split <;> rfl
@[simp] theorem State.ioAnswered_params (s : State) : (s.ioAnswered).params = s.params := by unfold State.ioAnswered; split <;> rfl
@[simp] theorem State.ioAnswered_bank0 (s : State) : (s.ioAnswered).bank0 = s.bank0 := by unfold State.ioAnswered; split <;> rfl
@[simp] theorem State.ioAnswered_bank1 (s : State) : (s.ioAnswered).bank1 = s.bank1 := by unfold State.ioAnswered; split <;> rfl
@[simp] theorem State.ioAnswered_pc (s : State) : (s.ioAnswered).pc = s.pc := by unfold State.ioAnswered; split <;> rfl
@[simp] theorem State.ioAnswered_flags (s : State) : (s.ioAnswered).flags = s.flags := by unfold State.ioAnswered; split <;> rfl
@[simp] theorem State.ioAnswered_h (s : State) : (s.ioAnswered).h = s.h := by unfold State.ioAnswered; split <;> rfl
@[simp] theorem State.ioAnswered_intMd (s : State) : (s.ioAnswered).intMd = s.intMd := by unfold State.ioAnswered; split <;> rfl
@[simp] theorem State.ioAnswered_gie (s : State) : (s.ioAnswered).gie = s.gie := by unfold State.ioAnswered; split <;> rfl
@[simp] theorem State.ioAnswered_pmem (s : State) : (s.ioAnswered).pmem = s.pmem := by unfold State.ioAnswered; split <;> rfl
@[simp] theorem State.ioAnswered_dmem (s : State) : (s.ioAnswered).dmem = s.dmem := by unfold State.ioAnswered; split <;> rfl
@[simp] theorem State.ioAnswered_dev (s : State) : (s.ioAnswered).dev = s.dev := by unfold State.ioAnswered; split <;> rfl
@[simp] theorem State.ioAnswered_trace (s : State) : (s.ioAnswered).trace = s.trace := by unfold State.ioAnswered; split <;> rfl
@[simp] theorem State.irqAnswered_coreId (s : State) : (s.irqAnswered).coreId = s.coreId := by unfold State.irqAnswered; split <;> rfl
@[simp] theorem State.irqAnswered_params (s : State) : (s.irqAnswered).params = s.params := by unfold State.irqAnswered; split <;> rfl
@[simp] theorem State.irqAnswered_bank0 (s : State) : (s.irqAnswered).bank0 = s.bank0 := by unfold State.irqAnswered; split <;> rfl
@[simp] theorem State.irqAnswered_bank1 (s : State) : (s.irqAnswered).bank1 = s.bank1 := by unfold State.irqAnswered; split <;> rfl
@[simp] theorem State.irqAnswered_pc (s : State) : (s.irqAnswered).pc = s.pc := by unfold State.irqAnswered; split <;> rfl
@[simp] theorem State.irqAnswered_flags (s : State) : (s.irqAnswered).flags = s.flags := by unfold State.irqAnswered; split <;> rfl
@[simp] theorem State.irqAnswered_h (s : State) : (s.irqAnswered).h = s.h := by unfold State.irqAnswered; split <;> rfl
@[simp] theorem State.irqAnswered_intMd (s : State) : (s.irqAnswered).intMd = s.intMd := by unfold State.irqAnswered; split <;> rfl
@[simp] theorem State.irqAnswered_gie (s : State) : (s.irqAnswered).gie = s.gie := by unfold State.irqAnswered; split <;> rfl
@[simp] theorem State.irqAnswered_pmem (s : State) : (s.irqAnswered).pmem = s.pmem := by unfold State.irqAnswered; split <;> rfl
@[simp] theorem State.irqAnswered_dmem (s : State) : (s.irqAnswered).dmem = s.dmem := by unfold State.irqAnswered; split <;> rfl
@[simp] theorem State.irqAnswered_dev (s : State) : (s.irqAnswered).dev = s.dev := by unfold State.irqAnswered; split <;> rfl
@[simp] theorem State.irqAnswered_trace (s : State) : (s.irqAnswered).trace = s.trace := by unfold State.irqAnswered; split <;> rfl
@[simp] theorem State.freeNZ_coreId (s : State) : (s.freeNZ).coreId = s.coreId := rfl
@[simp] theorem State.freeNZ_params (s : State) : (s.freeNZ).params = s.params := rfl
@[simp] theorem State.freeNZ_bank0 (s : State) : (s.freeNZ).bank0 = s.bank0 := rfl
@[simp] theorem State.freeNZ_bank1 (s : State) : (s.freeNZ).bank1 = s.bank1 := rfl
@[simp] theorem State.freeNZ_pc (s : State) : (s.freeNZ).pc = s.pc := rfl
@[simp] theorem State.freeNZ_h (s : State) : (s.freeNZ).h = s.h := rfl
@[simp] theorem State.freeNZ_intMd (s : State) : (s.freeNZ).intMd = s.intMd := rfl
@[simp] theorem State.freeNZ_gie (s : State) : (s.freeNZ).gie = s.gie := rfl
@[simp] theorem State.freeNZ_pmem (s : State) : (s.freeNZ).pmem = s.pmem := rfl
@[simp] theorem State.freeNZ_dmem (s : State) : (s.freeNZ).dmem = s.dmem := rfl
@[simp] theorem State.freeNZ_dev (s : State) : (s.freeNZ).dev = s.dev := rfl
@[simp] theorem State.freeNZ_oracle (s : State) : (s.freeNZ).oracle = s.oracle.drawn.drawn := rfl
@[simp] theorem State.freeNZ_trace (s : State) : (s.freeNZ).trace = s.trace := rfl
@[simp] theorem State.freeNZ_flags_c (s : State) : s.freeNZ.flags.c = s.flags.c := rfl
@[simp] theorem State.freeNZ_flags_v (s : State) : s.freeNZ.flags.v = s.flags.v := rfl

/-! ## Devices -/

@[simp] theorem State.setNetNode_coreId (s : State) (n : NetNode) : (s.setNetNode n).coreId = s.coreId := rfl
@[simp] theorem State.setNetNode_params (s : State) (n : NetNode) : (s.setNetNode n).params = s.params := rfl
@[simp] theorem State.setNetNode_bank0 (s : State) (n : NetNode) : (s.setNetNode n).bank0 = s.bank0 := rfl
@[simp] theorem State.setNetNode_bank1 (s : State) (n : NetNode) : (s.setNetNode n).bank1 = s.bank1 := rfl
@[simp] theorem State.setNetNode_pc (s : State) (n : NetNode) : (s.setNetNode n).pc = s.pc := rfl
@[simp] theorem State.setNetNode_flags (s : State) (n : NetNode) : (s.setNetNode n).flags = s.flags := rfl
@[simp] theorem State.setNetNode_h (s : State) (n : NetNode) : (s.setNetNode n).h = s.h := rfl
@[simp] theorem State.setNetNode_intMd (s : State) (n : NetNode) : (s.setNetNode n).intMd = s.intMd := rfl
@[simp] theorem State.setNetNode_gie (s : State) (n : NetNode) : (s.setNetNode n).gie = s.gie := rfl
@[simp] theorem State.setNetNode_pmem (s : State) (n : NetNode) : (s.setNetNode n).pmem = s.pmem := rfl
@[simp] theorem State.setNetNode_dmem (s : State) (n : NetNode) : (s.setNetNode n).dmem = s.dmem := rfl
@[simp] theorem State.setNetNode_dev (s : State) (n : NetNode) : (s.setNetNode n).dev = { s.dev with netNode := n } := rfl
@[simp] theorem State.setNetNode_oracle (s : State) (n : NetNode) : (s.setNetNode n).oracle = s.oracle := rfl
@[simp] theorem State.setNetNode_trace (s : State) (n : NetNode) : (s.setNetNode n).trace = s.trace := rfl
@[simp] theorem State.setRs232_coreId (s : State) (r : Rs232) : (s.setRs232 r).coreId = s.coreId := rfl
@[simp] theorem State.setRs232_params (s : State) (r : Rs232) : (s.setRs232 r).params = s.params := rfl
@[simp] theorem State.setRs232_bank0 (s : State) (r : Rs232) : (s.setRs232 r).bank0 = s.bank0 := rfl
@[simp] theorem State.setRs232_bank1 (s : State) (r : Rs232) : (s.setRs232 r).bank1 = s.bank1 := rfl
@[simp] theorem State.setRs232_pc (s : State) (r : Rs232) : (s.setRs232 r).pc = s.pc := rfl
@[simp] theorem State.setRs232_flags (s : State) (r : Rs232) : (s.setRs232 r).flags = s.flags := rfl
@[simp] theorem State.setRs232_h (s : State) (r : Rs232) : (s.setRs232 r).h = s.h := rfl
@[simp] theorem State.setRs232_intMd (s : State) (r : Rs232) : (s.setRs232 r).intMd = s.intMd := rfl
@[simp] theorem State.setRs232_gie (s : State) (r : Rs232) : (s.setRs232 r).gie = s.gie := rfl
@[simp] theorem State.setRs232_pmem (s : State) (r : Rs232) : (s.setRs232 r).pmem = s.pmem := rfl
@[simp] theorem State.setRs232_dmem (s : State) (r : Rs232) : (s.setRs232 r).dmem = s.dmem := rfl
@[simp] theorem State.setRs232_dev (s : State) (r : Rs232) : (s.setRs232 r).dev = { s.dev with rs232 := r } := rfl
@[simp] theorem State.setRs232_oracle (s : State) (r : Rs232) : (s.setRs232 r).oracle = s.oracle := rfl
@[simp] theorem State.setRs232_trace (s : State) (r : Rs232) : (s.setRs232 r).trace = s.trace := rfl
@[simp] theorem State.setDdr2_coreId (s : State) (d : Ddr2) : (s.setDdr2 d).coreId = s.coreId := rfl
@[simp] theorem State.setDdr2_params (s : State) (d : Ddr2) : (s.setDdr2 d).params = s.params := rfl
@[simp] theorem State.setDdr2_bank0 (s : State) (d : Ddr2) : (s.setDdr2 d).bank0 = s.bank0 := rfl
@[simp] theorem State.setDdr2_bank1 (s : State) (d : Ddr2) : (s.setDdr2 d).bank1 = s.bank1 := rfl
@[simp] theorem State.setDdr2_pc (s : State) (d : Ddr2) : (s.setDdr2 d).pc = s.pc := rfl
@[simp] theorem State.setDdr2_flags (s : State) (d : Ddr2) : (s.setDdr2 d).flags = s.flags := rfl
@[simp] theorem State.setDdr2_h (s : State) (d : Ddr2) : (s.setDdr2 d).h = s.h := rfl
@[simp] theorem State.setDdr2_intMd (s : State) (d : Ddr2) : (s.setDdr2 d).intMd = s.intMd := rfl
@[simp] theorem State.setDdr2_gie (s : State) (d : Ddr2) : (s.setDdr2 d).gie = s.gie := rfl
@[simp] theorem State.setDdr2_pmem (s : State) (d : Ddr2) : (s.setDdr2 d).pmem = s.pmem := rfl
@[simp] theorem State.setDdr2_dmem (s : State) (d : Ddr2) : (s.setDdr2 d).dmem = s.dmem := rfl
@[simp] theorem State.setDdr2_dev (s : State) (d : Ddr2) : (s.setDdr2 d).dev = { s.dev with ddr2 := d } := rfl
@[simp] theorem State.setDdr2_oracle (s : State) (d : Ddr2) : (s.setDdr2 d).oracle = s.oracle := rfl
@[simp] theorem State.setDdr2_trace (s : State) (d : Ddr2) : (s.setDdr2 d).trace = s.trace := rfl

/-! ## The reading of the DDR2 status -/

@[simp] theorem State.ddrObserved_coreId (s : State) (w : Word) : (s.ddrObserved w).coreId = s.coreId := rfl
@[simp] theorem State.ddrObserved_params (s : State) (w : Word) : (s.ddrObserved w).params = s.params := rfl
@[simp] theorem State.ddrObserved_bank0 (s : State) (w : Word) : (s.ddrObserved w).bank0 = s.bank0 := rfl
@[simp] theorem State.ddrObserved_bank1 (s : State) (w : Word) : (s.ddrObserved w).bank1 = s.bank1 := rfl
@[simp] theorem State.ddrObserved_pc (s : State) (w : Word) : (s.ddrObserved w).pc = s.pc := rfl
@[simp] theorem State.ddrObserved_flags (s : State) (w : Word) : (s.ddrObserved w).flags = s.flags := rfl
@[simp] theorem State.ddrObserved_h (s : State) (w : Word) : (s.ddrObserved w).h = s.h := rfl
@[simp] theorem State.ddrObserved_intMd (s : State) (w : Word) : (s.ddrObserved w).intMd = s.intMd := rfl
@[simp] theorem State.ddrObserved_gie (s : State) (w : Word) : (s.ddrObserved w).gie = s.gie := rfl
@[simp] theorem State.ddrObserved_pmem (s : State) (w : Word) : (s.ddrObserved w).pmem = s.pmem := rfl
@[simp] theorem State.ddrObserved_dmem (s : State) (w : Word) : (s.ddrObserved w).dmem = s.dmem := rfl
@[simp] theorem State.ddrObserved_trace (s : State) (w : Word) : (s.ddrObserved w).trace = s.trace := rfl
@[simp] theorem State.ddrObserved_netNode (s : State) (w : Word) : (s.ddrObserved w).dev.netNode = s.dev.netNode := rfl
@[simp] theorem State.ddrObserved_rs232 (s : State) (w : Word) : (s.ddrObserved w).dev.rs232 = s.dev.rs232 := rfl
@[simp] theorem State.ddrObserved_timer (s : State) (w : Word) : (s.ddrObserved w).dev.timer = s.dev.timer := rfl
@[simp] theorem State.ddrObserved_lcd (s : State) (w : Word) : (s.ddrObserved w).dev.lcd = s.dev.lcd := rfl
@[simp] theorem State.ddrObserved_leds (s : State) (w : Word) : (s.ddrObserved w).dev.leds = s.dev.leds := rfl
@[simp] theorem State.ddrObserved_switches (s : State) (w : Word) : (s.ddrObserved w).dev.switches = s.dev.switches := rfl
@[simp] theorem State.ddrObserved_rf (s : State) (w : Word) (k : Bool) (i : RegNo) : (s.ddrObserved w).rf k i = s.rf k i := by
  cases k <;> rfl

/-! ## The oracle -/

@[simp] theorem Oracle.drawn_ioAnswers (o : Oracle) : o.drawn.ioAnswers = o.ioAnswers := rfl
@[simp] theorem Oracle.drawn_irqAnswers (o : Oracle) : o.drawn.irqAnswers = o.irqAnswers := rfl
@[simp] theorem Oracle.drawn_blockAnswers (o : Oracle) : o.drawn.blockAnswers = o.blockAnswers := rfl
@[simp] theorem Oracle.blockGiven_ioAnswers (o : Oracle) : o.blockGiven.ioAnswers = o.ioAnswers := by
  unfold Oracle.blockGiven; split <;> rfl
@[simp] theorem Oracle.blockGiven_irqAnswers (o : Oracle) : o.blockGiven.irqAnswers = o.irqAnswers := by
  unfold Oracle.blockGiven; split <;> rfl
@[simp] theorem Oracle.blocksGiven_ioAnswers (o : Oracle) (n : Nat) : (o.blocksGiven n).ioAnswers = o.ioAnswers := by
  induction n generalizing o with
  | zero => rfl
  | succ n ih => simp [Oracle.blocksGiven, ih]
@[simp] theorem Oracle.blocksGiven_irqAnswers (o : Oracle) (n : Nat) : (o.blocksGiven n).irqAnswers = o.irqAnswers := by
  induction n generalizing o with
  | zero => rfl
  | succ n ih => simp [Oracle.blocksGiven, ih]
/-- As many blocks come as are asked for. -/
@[simp] theorem Oracle.length_blocks (o : Oracle) (n : Nat) : (o.blocks n).length = n := by
  induction n generalizing o with
  | zero => rfl
  | succ n ih => simp [Oracle.blocks, ih]
@[simp] theorem State.ddrObserved_ioAnswers (s : State) (w : Word) : (s.ddrObserved w).oracle.ioAnswers = s.oracle.ioAnswers := by
  simp [State.ddrObserved, Ddr2.observed]
@[simp] theorem State.ddrObserved_irqAnswers (s : State) (w : Word) : (s.ddrObserved w).oracle.irqAnswers = s.oracle.irqAnswers := by
  simp [State.ddrObserved, Ddr2.observed]
/-- A port read uses the first answer up (20_memory.md R82). -/
@[simp] theorem State.ioAnswered_ioAnswers (s : State) : s.ioAnswered.oracle.ioAnswers = s.oracle.ioAnswers.tail := by
  unfold State.ioAnswered; split <;> rename_i h <;> simp [h]
@[simp] theorem State.ioAnswered_irqAnswers (s : State) : s.ioAnswered.oracle.irqAnswers = s.oracle.irqAnswers := by
  unfold State.ioAnswered; split <;> simp
@[simp] theorem State.ioAnswered_blockAnswers (s : State) : s.ioAnswered.oracle.blockAnswers = s.oracle.blockAnswers := by
  unfold State.ioAnswered; split <;> simp

/-! ## Registers through the updates -/

@[simp] theorem State.setPc_rf (s : State) (t : PAddr) (k : Bool) (i : RegNo) : (s.setPc t).rf k i = s.rf k i := by cases k <;> rfl
@[simp] theorem State.advance_rf (s : State) (k : Bool) (i : RegNo) : (s.advance).rf k i = s.rf k i := by cases k <;> rfl
@[simp] theorem State.setFlags_rf (s : State) (f : Flags) (k : Bool) (i : RegNo) : (s.setFlags f).rf k i = s.rf k i := by cases k <;> rfl
@[simp] theorem State.setH_rf (s : State) (v : Word) (k : Bool) (i : RegNo) : (s.setH v).rf k i = s.rf k i := by cases k <;> rfl
@[simp] theorem State.setMode_rf (s : State) (b : Bool) (e : Bool) (k : Bool) (i : RegNo) : (s.setMode b e).rf k i = s.rf k i := by cases k <;> rfl
@[simp] theorem State.storeWord_rf (s : State) (a : BitVec 11) (v : Word) (k : Bool) (i : RegNo) : (s.storeWord a v).rf k i = s.rf k i := by cases k <;> rfl
@[simp] theorem State.setDev_rf (s : State) (d : Devices) (k : Bool) (i : RegNo) : (s.setDev d).rf k i = s.rf k i := by cases k <;> rfl
@[simp] theorem State.setOracle_rf (s : State) (o : Oracle) (k : Bool) (i : RegNo) : (s.setOracle o).rf k i = s.rf k i := by cases k <;> rfl
@[simp] theorem State.note_rf (s : State) (e : IoEvent) (k : Bool) (i : RegNo) : (s.note e).rf k i = s.rf k i := by cases k <;> rfl
@[simp] theorem State.drawn_rf (s : State) (k : Bool) (i : RegNo) : (s.drawn).rf k i = s.rf k i := by cases k <;> rfl
@[simp] theorem State.freeNZ_rf (s : State) (k : Bool) (i : RegNo) : (s.freeNZ).rf k i = s.rf k i := by cases k <;> rfl
@[simp] theorem State.setNetNode_rf (s : State) (n : NetNode) (k : Bool) (i : RegNo) : (s.setNetNode n).rf k i = s.rf k i := by cases k <;> rfl
@[simp] theorem State.setRs232_rf (s : State) (r : Rs232) (k : Bool) (i : RegNo) : (s.setRs232 r).rf k i = s.rf k i := by cases k <;> rfl
@[simp] theorem State.setDdr2_rf (s : State) (d : Ddr2) (k : Bool) (i : RegNo) : (s.setDdr2 d).rf k i = s.rf k i := by cases k <;> rfl
@[simp] theorem State.ioAnswered_rf (s : State) (k : Bool) (i : RegNo) : (s.ioAnswered).rf k i = s.rf k i := by cases k <;> simp [State.rf]
@[simp] theorem State.irqAnswered_rf (s : State) (k : Bool) (i : RegNo) : (s.irqAnswered).rf k i = s.rf k i := by cases k <;> simp [State.rf]

theorem bankGet_bankSet (b : Vector Word 16) (i j : RegNo) (v : Word) :
    bankGet (bankSet b i v) j = if j = i then v else bankGet b j := by
  unfold bankGet bankSet
  rw [Vector.getElem_set]
  by_cases h : j = i
  · subst h; simp
  · have : i.toNat ≠ j.toNat := fun e => h (BitVec.eq_of_toNat_eq e.symm)
    simp [this, h]

/-- What a register reads after a register was written (10_state.md R21, R22). -/
theorem State.rf_setRf (s : State) (k k' : Bool) (i j : RegNo) (v : Word) :
    (s.setRf k i v).rf k' j = if k' = k ∧ j = i then v else s.rf k' j := by
  cases k <;> cases k' <;> simp [State.setRf, State.rf, bankGet_bankSet]

@[simp] theorem State.rf_setRf_same (s : State) (k : Bool) (i : RegNo) (v : Word) : (s.setRf k i v).rf k i = v := by
  simp [State.rf_setRf]

/-- What a register of either bank reads after `x[i] <- v`. -/
theorem State.rf_setX (s : State) (k : Bool) (i j : RegNo) (v : Word) :
    (s.setX i v).rf k j = if k = s.intMd ∧ j = i then v else s.rf k j := State.rf_setRf ..

@[simp] theorem State.rf_setX_same (s : State) (i : RegNo) (v : Word) : (s.setX i v).rf s.intMd i = v := by
  simp [State.rf_setX]

end Sys2Proof.Machine
end

