-- ==== Sys2Proof/Laws/Ops.lean ====
section
/-! SUPPORT. What the shared operations on the core can do: interrupts, results, branches, products. -/

namespace Sys2Proof.Machine

/-! ## Interrupts -/

/-- When an interrupt is taken at a boundary: `GIE` is 1, the source requests, none of a lower vector does, and the outside
chooses this boundary (60_exceptions.md R208, R209). -/
theorem interruptNow_eq_some {s : State} {k : IrqSource} (h : interruptNow s = some k) :
    s.gie = true ∧ firstRequest s s.irqAnswer = some k ∧ s.irqAnswer.enterNow = true := by
  unfold interruptNow at h
  split at h
  · next hg =>
    split at h
    · cases h
    · next k' hk =>
      split at h
      · next he => cases h; exact ⟨hg, hk, he⟩
      · cases h
  · cases h

/-- With `GIE` = 0 no interrupt is taken (60_exceptions.md R209). -/
@[simp] theorem interruptNow_gie_clear {s : State} (h : s.gie = false) : interruptNow s = none := by
  simp [interruptNow, h]

/-- With `GIE` = 0 nothing is asked of the outside. -/
@[simp] theorem atBoundary_gie_clear {s : State} (h : s.gie = false) : atBoundary s = s := by
  simp [atBoundary, h]

/-- A source taken first has its request line at 1 (60_exceptions.md R209). -/
theorem firstRequest_requests {s : State} {a : IrqAnswer} {k : IrqSource} (h : firstRequest s a = some k) :
    irqRequest s a k = true := by
  unfold firstRequest at h
  split at h
  · next h1 => cases h; exact h1
  · split at h
    · next h2 => cases h; exact h2
    · split at h
      · next h3 => cases h; exact h3
      · cases h

@[simp] theorem atBoundary_coreId (s : State) : (atBoundary s).coreId = s.coreId := by unfold atBoundary; split <;> simp
@[simp] theorem atBoundary_params (s : State) : (atBoundary s).params = s.params := by unfold atBoundary; split <;> simp
@[simp] theorem atBoundary_bank0 (s : State) : (atBoundary s).bank0 = s.bank0 := by unfold atBoundary; split <;> simp
@[simp] theorem atBoundary_bank1 (s : State) : (atBoundary s).bank1 = s.bank1 := by unfold atBoundary; split <;> simp
@[simp] theorem atBoundary_pc (s : State) : (atBoundary s).pc = s.pc := by unfold atBoundary; split <;> simp
@[simp] theorem atBoundary_flags (s : State) : (atBoundary s).flags = s.flags := by unfold atBoundary; split <;> simp
@[simp] theorem atBoundary_h (s : State) : (atBoundary s).h = s.h := by unfold atBoundary; split <;> simp
@[simp] theorem atBoundary_intMd (s : State) : (atBoundary s).intMd = s.intMd := by unfold atBoundary; split <;> simp
@[simp] theorem atBoundary_gie (s : State) : (atBoundary s).gie = s.gie := by unfold atBoundary; split <;> simp
@[simp] theorem atBoundary_pmem (s : State) : (atBoundary s).pmem = s.pmem := by unfold atBoundary; split <;> simp
@[simp] theorem atBoundary_dmem (s : State) : (atBoundary s).dmem = s.dmem := by unfold atBoundary; split <;> simp
@[simp] theorem atBoundary_dev (s : State) : (atBoundary s).dev = s.dev := by unfold atBoundary; split <;> simp
@[simp] theorem atBoundary_trace (s : State) : (atBoundary s).trace = s.trace := by unfold atBoundary; split <;> simp
@[simp] theorem atBoundary_rf (s : State) (k : Bool) (i : RegNo) : (atBoundary s).rf k i = s.rf k i := by cases k <;> simp [State.rf]

@[simp] theorem interruptEntry_coreId (k : IrqSource) (s : State) : (interruptEntry k s).coreId = s.coreId := rfl
@[simp] theorem interruptEntry_params (k : IrqSource) (s : State) : (interruptEntry k s).params = s.params := rfl
@[simp] theorem interruptEntry_bank0 (k : IrqSource) (s : State) : (interruptEntry k s).bank0 = s.bank0 := rfl
@[simp] theorem interruptEntry_pc (k : IrqSource) (s : State) : (interruptEntry k s).pc = vectorOf k := rfl
@[simp] theorem interruptEntry_flags (k : IrqSource) (s : State) : (interruptEntry k s).flags = s.flags := rfl
@[simp] theorem interruptEntry_h (k : IrqSource) (s : State) : (interruptEntry k s).h = s.h := rfl
@[simp] theorem interruptEntry_intMd (k : IrqSource) (s : State) : (interruptEntry k s).intMd = true := rfl
@[simp] theorem interruptEntry_gie (k : IrqSource) (s : State) : (interruptEntry k s).gie = false := rfl
@[simp] theorem interruptEntry_pmem (k : IrqSource) (s : State) : (interruptEntry k s).pmem = s.pmem := rfl
@[simp] theorem interruptEntry_dmem (k : IrqSource) (s : State) : (interruptEntry k s).dmem = s.dmem := rfl
@[simp] theorem interruptEntry_dev (k : IrqSource) (s : State) : (interruptEntry k s).dev = s.dev := rfl
@[simp] theorem interruptEntry_trace (k : IrqSource) (s : State) : (interruptEntry k s).trace = s.trace := rfl
/-- What a register reads after interrupt entry: `RF[1][15]` holds the saved word (60_exceptions.md R210). -/
theorem interruptEntry_rf (k : IrqSource) (s : State) (b : Bool) (i : RegNo) :
    (interruptEntry k s).rf b i =
      if b = true ∧ i = 15#4 then savedWord s.flags (s.freeBits 16) s.pc else s.rf b i := by
  simp [interruptEntry, State.rf_setRf]

@[simp] theorem interruptReturn_coreId (a : RegNo) (s : State) : (interruptReturn a s).coreId = s.coreId := rfl
@[simp] theorem interruptReturn_params (a : RegNo) (s : State) : (interruptReturn a s).params = s.params := rfl
@[simp] theorem interruptReturn_bank0 (a : RegNo) (s : State) : (interruptReturn a s).bank0 = s.bank0 := rfl
@[simp] theorem interruptReturn_bank1 (a : RegNo) (s : State) : (interruptReturn a s).bank1 = s.bank1 := rfl
@[simp] theorem interruptReturn_pc (a : RegNo) (s : State) : (interruptReturn a s).pc = (s.rf true a).setWidth 12 := rfl
@[simp] theorem interruptReturn_flags (a : RegNo) (s : State) : (interruptReturn a s).flags = savedFlags (s.rf true a) := rfl
@[simp] theorem interruptReturn_h (a : RegNo) (s : State) : (interruptReturn a s).h = s.h := rfl
@[simp] theorem interruptReturn_intMd (a : RegNo) (s : State) : (interruptReturn a s).intMd = false := rfl
@[simp] theorem interruptReturn_gie (a : RegNo) (s : State) : (interruptReturn a s).gie = true := rfl
@[simp] theorem interruptReturn_pmem (a : RegNo) (s : State) : (interruptReturn a s).pmem = s.pmem := rfl
@[simp] theorem interruptReturn_dmem (a : RegNo) (s : State) : (interruptReturn a s).dmem = s.dmem := rfl
@[simp] theorem interruptReturn_dev (a : RegNo) (s : State) : (interruptReturn a s).dev = s.dev := rfl
@[simp] theorem interruptReturn_oracle (a : RegNo) (s : State) : (interruptReturn a s).oracle = s.oracle := rfl
@[simp] theorem interruptReturn_trace (a : RegNo) (s : State) : (interruptReturn a s).trace = s.trace := rfl
@[simp] theorem interruptReturn_rf (a : RegNo) (s : State) (b : Bool) (i : RegNo) : (interruptReturn a s).rf b i = s.rf b i := by
  simp [interruptReturn]

/-- The saved word gives back the flags it was made from (60_exceptions.md R211). -/
@[simp] theorem savedFlags_savedWord (f : Flags) (m : BitVec 16) (p : PAddr) : savedFlags (savedWord f m p) = f := by
  obtain ⟨n, z, c, v⟩ := f
  simp only [savedFlags, savedWord, Flags.mk.injEq]
  refine ⟨?_, ?_, ?_, ?_⟩ <;>
  · rw [BitVec.getLsbD_append (n := 20) (m := 12)]
    simp only [BitVec.getLsbD_append]
    simp

/-- The saved word gives back the pended address (60_exceptions.md R211). -/
@[simp] theorem setWidth_savedWord (f : Flags) (m : BitVec 16) (p : PAddr) : (savedWord f m p).setWidth 12 = p := by
  apply BitVec.eq_of_getLsbD_eq
  intro i hi
  simp only [savedWord]
  rw [BitVec.getLsbD_setWidth, BitVec.getLsbD_append (n := 20) (m := 12)]
  simp [hi]

/-! ## Results and branches -/

@[simp] theorem writeResult_coreId (d : RegNo) (r : Word) (s : State) : (writeResult d r s).coreId = s.coreId := by simp [writeResult]
@[simp] theorem writeResult_params (d : RegNo) (r : Word) (s : State) : (writeResult d r s).params = s.params := by simp [writeResult]
@[simp] theorem writeResult_h (d : RegNo) (r : Word) (s : State) : (writeResult d r s).h = s.h := by simp [writeResult]
@[simp] theorem writeResult_intMd (d : RegNo) (r : Word) (s : State) : (writeResult d r s).intMd = s.intMd := by simp [writeResult]
@[simp] theorem writeResult_gie (d : RegNo) (r : Word) (s : State) : (writeResult d r s).gie = s.gie := by simp [writeResult]
@[simp] theorem writeResult_pmem (d : RegNo) (r : Word) (s : State) : (writeResult d r s).pmem = s.pmem := by simp [writeResult]
@[simp] theorem writeResult_dmem (d : RegNo) (r : Word) (s : State) : (writeResult d r s).dmem = s.dmem := by simp [writeResult]
@[simp] theorem writeResult_dev (d : RegNo) (r : Word) (s : State) : (writeResult d r s).dev = s.dev := by simp [writeResult]
@[simp] theorem writeResult_oracle (d : RegNo) (r : Word) (s : State) : (writeResult d r s).oracle = s.oracle := by simp [writeResult]
@[simp] theorem writeResult_trace (d : RegNo) (r : Word) (s : State) : (writeResult d r s).trace = s.trace := by simp [writeResult]
@[simp] theorem writeResult_pc (d : RegNo) (r : Word) (s : State) : (writeResult d r s).pc = s.pc + 1#12 := by simp [writeResult]
@[simp] theorem writeResult_flags (d : RegNo) (r : Word) (s : State) : (writeResult d r s).flags = withNZ s.flags r := rfl
theorem writeResult_rf (d : RegNo) (r : Word) (s : State) (k : Bool) (i : RegNo) :
    (writeResult d r s).rf k i = if k = s.intMd ∧ i = d then r else s.rf k i := by simp [writeResult, State.rf_setX]

@[simp] theorem writeResultFlags_coreId (d : RegNo) (r : Word) (g : Flags) (s : State) : (writeResultFlags d r g s).coreId = s.coreId := by simp [writeResultFlags]
@[simp] theorem writeResultFlags_params (d : RegNo) (r : Word) (g : Flags) (s : State) : (writeResultFlags d r g s).params = s.params := by simp [writeResultFlags]
@[simp] theorem writeResultFlags_h (d : RegNo) (r : Word) (g : Flags) (s : State) : (writeResultFlags d r g s).h = s.h := by simp [writeResultFlags]
@[simp] theorem writeResultFlags_intMd (d : RegNo) (r : Word) (g : Flags) (s : State) : (writeResultFlags d r g s).intMd = s.intMd := by simp [writeResultFlags]
@[simp] theorem writeResultFlags_gie (d : RegNo) (r : Word) (g : Flags) (s : State) : (writeResultFlags d r g s).gie = s.gie := by simp [writeResultFlags]
@[simp] theorem writeResultFlags_pmem (d : RegNo) (r : Word) (g : Flags) (s : State) : (writeResultFlags d r g s).pmem = s.pmem := by simp [writeResultFlags]
@[simp] theorem writeResultFlags_dmem (d : RegNo) (r : Word) (g : Flags) (s : State) : (writeResultFlags d r g s).dmem = s.dmem := by simp [writeResultFlags]
@[simp] theorem writeResultFlags_dev (d : RegNo) (r : Word) (g : Flags) (s : State) : (writeResultFlags d r g s).dev = s.dev := by simp [writeResultFlags]
@[simp] theorem writeResultFlags_oracle (d : RegNo) (r : Word) (g : Flags) (s : State) : (writeResultFlags d r g s).oracle = s.oracle := by simp [writeResultFlags]
@[simp] theorem writeResultFlags_trace (d : RegNo) (r : Word) (g : Flags) (s : State) : (writeResultFlags d r g s).trace = s.trace := by simp [writeResultFlags]
@[simp] theorem writeResultFlags_pc (d : RegNo) (r : Word) (g : Flags) (s : State) : (writeResultFlags d r g s).pc = s.pc + 1#12 := by
  simp [writeResultFlags]
@[simp] theorem writeResultFlags_flags (d : RegNo) (r : Word) (g : Flags) (s : State) : (writeResultFlags d r g s).flags = g := rfl
theorem writeResultFlags_rf (d : RegNo) (r : Word) (g : Flags) (s : State) (k : Bool) (i : RegNo) :
    (writeResultFlags d r g s).rf k i = if k = s.intMd ∧ i = d then r else s.rf k i := by simp [writeResultFlags, State.rf_setX]

/-- Bc changes the pc alone (46_relative_branch.md R180). -/
theorem branchIf_eq (taken : Bool) (off : BitVec 10) (s : State) :
    branchIf taken off s = s.setPc (if taken then bcTarget s.pc off else s.pc + 1#12) := by
  cases taken <;> rfl

/-! ## Products -/

/-- The high half is that of the product under the parameter's reading in every case (41_arith.md R134): where no factor has
bit 31 set, the two readings agree. -/
theorem productHigh_eq (m : MulSignedness) (x y : Word) : productHigh m x y = (product m x y).extractLsb' 32 32 := by
  unfold productHigh
  split
  · rfl
  · next h =>
    simp only [Bool.or_eq_true, not_or, Bool.not_eq_true] at h
    have e : ∀ w : Word, w.getLsbD 31 = false → w.signExtend 64 = w.setWidth 64 := fun w hw =>
      BitVec.signExtend_eq_setWidth_of_msb_false (by simpa [BitVec.msb_eq_getLsbD_last] using hw)
    cases m
    · simp [product, e x h.1, e y h.2]
    · rfl

/-- The low half of the product is the same under both readings (41_arith.md R134). -/
theorem product_low (m : MulSignedness) (x y : Word) : (product m x y).setWidth 32 = x * y := by
  have e : ∀ w : Word, (w.signExtend 64).setWidth 32 = w := by
    intro w
    apply BitVec.eq_of_getLsbD_eq
    intro i hi
    simp [BitVec.getLsbD_signExtend, hi]
    omega
  cases m
  · simp [product, BitVec.setWidth_mul, e]
  · simp [product, BitVec.setWidth_mul]

end Sys2Proof.Machine
end

