-- ==== Sys2Proof/Laws/PerInstr.lean ====
section
/-! SUPPORT. One statement about each instruction as syntax: where its canonical word stands in the opcode map. -/

namespace Sys2Proof.Laws.Placement

/-- The opcode of a family in the map of 30_encoding.md R100 (for NOT, LDH, LDC and the forms of BR, one they share). For AND,
BIC, OR, XOR, which one family here holds, the two low bits tell which. -/
def opcodeOf : Machine.Family → Option (BitVec 4)
  | .logic => none
  | .add => some 0b0100#4
  | .sub => some 0b0101#4
  | .mul => some 0b0110#4
  | .not | .ldh | .ldc => some 0b0111#4
  | .lit => some 0b1000#4
  | .ror => some 0b1001#4
  | .blr => some 0b1010#4
  | .brReg | .brMode | .brRet => some 0b1011#4
  | .ld => some 0b1100#4
  | .st => some 0b1101#4
  | .bc => some 0b1110#4
  | .bl => some 0b1111#4

/-- The canonical word of an instruction carries the opcode of its family (30_encoding.md R100) and is a word that the map
assigns (R103); a logic instruction carries one of the four opcodes 0000 to 0011. -/
def Statement (i : Instr) : Prop :=
  (match opcodeOf (Machine.familyOf i) with
    | some op => opField (encode i) = op
    | none => (opField (encode i)).toNat < 4) ∧
  wellFormedWord (encode i) = true

/-- A word is assigned when its opcode is neither 0111 nor 1010. -/
theorem wellFormedWord_of_opField (w : Code) (h7 : opField w ≠ 0b0111#4) (h10 : opField w ≠ 0b1010#4) :
    wellFormedWord w = true := by
  simp only [opField] at h7 h10
  simp [wellFormedWord, inOp0111, inOp1010, h7, h10]

/-- A word with IR[5] = 0 is assigned when its opcode is not 1010. -/
theorem wellFormedWord_of_literal (w : Code) (h5 : sBit w = false) (h10 : opField w ≠ 0b1010#4) :
    wellFormedWord w = true := by
  have h : w.extractLsb' 4 2 ≠ 0b11#2 := by
    intro e
    have := congrArg (fun v => v.getLsbD 1) e
    simp [sBit] at this h5
    simp [h5] at this
  simp only [opField] at h10
  simp [wellFormedWord, inOp0111, inOp1010, h, h10]

/-- A word with IR[5] = 1, IR[4] = 0 is assigned. -/
theorem wellFormedWord_of_register (w : Code) (h5 : sBit w = true) (h4 : tBit w = false) : wellFormedWord w = true := by
  have h : w.extractLsb' 4 2 ≠ 0b11#2 := by
    intro e
    have := congrArg (fun v => v.getLsbD 0) e
    simp [tBit] at this h4
    simp [h4] at this
  simp [sBit] at h5
  simp [wellFormedWord, inOp0111, inOp1010, h, h5]

/-- A word with IR[5] = 1 and IR[3:0] below 2 is assigned. -/
theorem wellFormedWord_of_small (w : Code) (h5 : sBit w = true) (ha : (aField w).toNat < 2) : wellFormedWord w = true := by
  simp only [sBit] at h5
  simp only [aField] at ha
  simp only [wellFormedWord, inOp0111, inOp1010, h5, decide_eq_false (Nat.not_le.mpr ha), Bool.and_false, Bool.not_true,
    Bool.not_false, Bool.and_true]

theorem andRL (d b : RegNo) (n : BitVec 5) : Statement (.andRL d b n) := by
  refine ⟨?_, ?_⟩
  · simp only [Machine.familyOf, opcodeOf, encode, opField_formRL]; decide
  · apply wellFormedWord_of_opField <;> rw [encode, opField_formRL] <;> decide

theorem andRR (d b a : RegNo) : Statement (.andRR d b a) := by
  refine ⟨?_, ?_⟩
  · simp only [Machine.familyOf, opcodeOf, encode, opField_formRR]; decide
  · apply wellFormedWord_of_opField <;> rw [encode, opField_formRR] <;> decide

theorem bicRL (d b : RegNo) (n : BitVec 5) : Statement (.bicRL d b n) := by
  refine ⟨?_, ?_⟩
  · simp only [Machine.familyOf, opcodeOf, encode, opField_formRL]; decide
  · apply wellFormedWord_of_opField <;> rw [encode, opField_formRL] <;> decide

theorem bicRR (d b a : RegNo) : Statement (.bicRR d b a) := by
  refine ⟨?_, ?_⟩
  · simp only [Machine.familyOf, opcodeOf, encode, opField_formRR]; decide
  · apply wellFormedWord_of_opField <;> rw [encode, opField_formRR] <;> decide

theorem orRL (d b : RegNo) (n : BitVec 5) : Statement (.orRL d b n) := by
  refine ⟨?_, ?_⟩
  · simp only [Machine.familyOf, opcodeOf, encode, opField_formRL]; decide
  · apply wellFormedWord_of_opField <;> rw [encode, opField_formRL] <;> decide

theorem orRR (d b a : RegNo) : Statement (.orRR d b a) := by
  refine ⟨?_, ?_⟩
  · simp only [Machine.familyOf, opcodeOf, encode, opField_formRR]; decide
  · apply wellFormedWord_of_opField <;> rw [encode, opField_formRR] <;> decide

theorem xorRL (d b : RegNo) (n : BitVec 5) : Statement (.xorRL d b n) := by
  refine ⟨?_, ?_⟩
  · simp only [Machine.familyOf, opcodeOf, encode, opField_formRL]; decide
  · apply wellFormedWord_of_opField <;> rw [encode, opField_formRL] <;> decide

theorem xorRR (d b a : RegNo) : Statement (.xorRR d b a) := by
  refine ⟨?_, ?_⟩
  · simp only [Machine.familyOf, opcodeOf, encode, opField_formRR]; decide
  · apply wellFormedWord_of_opField <;> rw [encode, opField_formRR] <;> decide

theorem addRL (d b : RegNo) (n : BitVec 5) : Statement (.addRL d b n) := by
  refine ⟨opField_formRL _ _ _ _, ?_⟩
  apply wellFormedWord_of_opField <;> rw [encode, opField_formRL] <;> decide

theorem addRR (d b a : RegNo) : Statement (.addRR d b a) := by
  refine ⟨opField_formRR _ _ _ _ _, ?_⟩
  apply wellFormedWord_of_opField <;> rw [encode, opField_formRR] <;> decide

theorem subRL (d b : RegNo) (n : BitVec 5) : Statement (.subRL d b n) := by
  refine ⟨opField_formRL _ _ _ _, ?_⟩
  apply wellFormedWord_of_opField <;> rw [encode, opField_formRL] <;> decide

theorem subRR (d b a : RegNo) : Statement (.subRR d b a) := by
  refine ⟨opField_formRR _ _ _ _ _, ?_⟩
  apply wellFormedWord_of_opField <;> rw [encode, opField_formRR] <;> decide

theorem mulRL (d b : RegNo) (n : BitVec 5) : Statement (.mulRL d b n) := by
  refine ⟨opField_formRL _ _ _ _, ?_⟩
  apply wellFormedWord_of_opField <;> rw [encode, opField_formRL] <;> decide

theorem mulRR (d b a : RegNo) : Statement (.mulRR d b a) := by
  refine ⟨opField_formRR _ _ _ _ _, ?_⟩
  apply wellFormedWord_of_opField <;> rw [encode, opField_formRR] <;> decide

theorem notRL (d : RegNo) (n : BitVec 5) : Statement (.notRL d n) := by refine ⟨opField_formRL _ _ _ _, wellFormedWord_of_literal _ (sBit_formRL _ _ _ _) ?_⟩; rw [encode, opField_formRL]; decide

theorem notRR (d a : RegNo) : Statement (.notRR d a) := ⟨opField_formRR _ _ _ _ _, wellFormedWord_of_register _ (sBit_formRR _ _ _ _ _) (tBit_formRR _ _ _ _ _)⟩

theorem ldh (d : RegNo) : Statement (.ldh d) := ⟨opField_formRR _ _ _ _ _, wellFormedWord_of_small _ (sBit_formRR _ _ _ _ _) (by rw [encode, aField_formRR]; decide)⟩

theorem ldc (d : RegNo) : Statement (.ldc d) := ⟨opField_formRR _ _ _ _ _, wellFormedWord_of_small _ (sBit_formRR _ _ _ _ _) (by rw [encode, aField_formRR]; decide)⟩

theorem lit (d : RegNo) (n : BitVec 10) : Statement (.lit d n) := by
  refine ⟨opField_formL _ _ _, ?_⟩
  apply wellFormedWord_of_opField <;> rw [encode, opField_formL] <;> decide

theorem rorRL (d b : RegNo) (n : BitVec 5) : Statement (.rorRL d b n) := by
  refine ⟨opField_formRL _ _ _ _, ?_⟩
  apply wellFormedWord_of_opField <;> rw [encode, opField_formRL] <;> decide

theorem rorRR (d b a : RegNo) : Statement (.rorRR d b a) := by
  refine ⟨opField_formRR _ _ _ _ _, ?_⟩
  apply wellFormedWord_of_opField <;> rw [encode, opField_formRR] <;> decide

theorem blr (a : RegNo) : Statement (.blr a) := ⟨opField_formRR _ _ _ _ _, wellFormedWord_of_register _ (sBit_formRR _ _ _ _ _) (tBit_formRR _ _ _ _ _)⟩

theorem brReg (a : RegNo) : Statement (.brReg a) := by
  refine ⟨opField_formRR _ _ _ _ _, ?_⟩
  apply wellFormedWord_of_opField <;> rw [encode, opField_formRR] <;> decide

theorem brMode (k : BitVec 2) : Statement (.brMode k) := by refine ⟨opField_formRL _ _ _ _, wellFormedWord_of_literal _ (sBit_formRL _ _ _ _) ?_⟩; rw [encode, opField_formRL]; decide

theorem brRet (a : RegNo) : Statement (.brRet a) := by
  refine ⟨opField_formRR _ _ _ _ _, ?_⟩
  apply wellFormedWord_of_opField <;> rw [encode, opField_formRR] <;> decide

theorem ldRL (d b : RegNo) (n : BitVec 5) : Statement (.ldRL d b n) := by
  refine ⟨opField_formRL _ _ _ _, ?_⟩
  apply wellFormedWord_of_opField <;> rw [encode, opField_formRL] <;> decide

theorem ldRR (d b a : RegNo) : Statement (.ldRR d b a) := by
  refine ⟨opField_formRR _ _ _ _ _, ?_⟩
  apply wellFormedWord_of_opField <;> rw [encode, opField_formRR] <;> decide

theorem stRL (d b : RegNo) (n : BitVec 5) : Statement (.stRL d b n) := by
  refine ⟨opField_formRL _ _ _ _, ?_⟩
  apply wellFormedWord_of_opField <;> rw [encode, opField_formRL] <;> decide

theorem stRR (d b a : RegNo) : Statement (.stRR d b a) := by
  refine ⟨opField_formRR _ _ _ _ _, ?_⟩
  apply wellFormedWord_of_opField <;> rw [encode, opField_formRR] <;> decide

theorem beq (off : BitVec 10) : Statement (.beq off) := by
  refine ⟨opField_formL _ _ _, ?_⟩
  apply wellFormedWord_of_opField <;> rw [encode, opField_formL] <;> decide

theorem bneq (off : BitVec 10) : Statement (.bneq off) := by
  refine ⟨opField_formL _ _ _, ?_⟩
  apply wellFormedWord_of_opField <;> rw [encode, opField_formL] <;> decide

theorem bcs (off : BitVec 10) : Statement (.bcs off) := by
  refine ⟨opField_formL _ _ _, ?_⟩
  apply wellFormedWord_of_opField <;> rw [encode, opField_formL] <;> decide

theorem bcc (off : BitVec 10) : Statement (.bcc off) := by
  refine ⟨opField_formL _ _ _, ?_⟩
  apply wellFormedWord_of_opField <;> rw [encode, opField_formL] <;> decide

theorem bn (off : BitVec 10) : Statement (.bn off) := by
  refine ⟨opField_formL _ _ _, ?_⟩
  apply wellFormedWord_of_opField <;> rw [encode, opField_formL] <;> decide

theorem bnn (off : BitVec 10) : Statement (.bnn off) := by
  refine ⟨opField_formL _ _ _, ?_⟩
  apply wellFormedWord_of_opField <;> rw [encode, opField_formL] <;> decide

theorem bv (off : BitVec 10) : Statement (.bv off) := by
  refine ⟨opField_formL _ _ _, ?_⟩
  apply wellFormedWord_of_opField <;> rw [encode, opField_formL] <;> decide

theorem bnv (off : BitVec 10) : Statement (.bnv off) := by
  refine ⟨opField_formL _ _ _, ?_⟩
  apply wellFormedWord_of_opField <;> rw [encode, opField_formL] <;> decide

theorem bhi (off : BitVec 10) : Statement (.bhi off) := by
  refine ⟨opField_formL _ _ _, ?_⟩
  apply wellFormedWord_of_opField <;> rw [encode, opField_formL] <;> decide

theorem bls (off : BitVec 10) : Statement (.bls off) := by
  refine ⟨opField_formL _ _ _, ?_⟩
  apply wellFormedWord_of_opField <;> rw [encode, opField_formL] <;> decide

theorem bgeq (off : BitVec 10) : Statement (.bgeq off) := by
  refine ⟨opField_formL _ _ _, ?_⟩
  apply wellFormedWord_of_opField <;> rw [encode, opField_formL] <;> decide

theorem blss (off : BitVec 10) : Statement (.blss off) := by
  refine ⟨opField_formL _ _ _, ?_⟩
  apply wellFormedWord_of_opField <;> rw [encode, opField_formL] <;> decide

theorem bgtr (off : BitVec 10) : Statement (.bgtr off) := by
  refine ⟨opField_formL _ _ _, ?_⟩
  apply wellFormedWord_of_opField <;> rw [encode, opField_formL] <;> decide

theorem bleq (off : BitVec 10) : Statement (.bleq off) := by
  refine ⟨opField_formL _ _ _, ?_⟩
  apply wellFormedWord_of_opField <;> rw [encode, opField_formL] <;> decide

theorem bt (off : BitVec 10) : Statement (.bt off) := by
  refine ⟨opField_formL _ _ _, ?_⟩
  apply wellFormedWord_of_opField <;> rw [encode, opField_formL] <;> decide

theorem bf (off : BitVec 10) : Statement (.bf off) := by
  refine ⟨opField_formL _ _ _, ?_⟩
  apply wellFormedWord_of_opField <;> rw [encode, opField_formL] <;> decide

theorem bl (off : BitVec 14) : Statement (.bl off) := by
  refine ⟨opField_formB _ _, ?_⟩
  apply wellFormedWord_of_opField <;> rw [encode, opField_formB] <;> decide

end Sys2Proof.Laws.Placement
end

