-- ==== Sys2Proof/Laws/Ports.lean ====
section
/-! SUPPORT. What the ports and the data side can do: one lemma per operation. -/

namespace Sys2Proof.Machine

/-! ## The effect of an access on the device touches only the devices and the oracle -/

@[simp] theorem portReadEffect_coreId (q : Port) (w : Word) (s : State) : (portReadEffect q w s).coreId = s.coreId := by
  cases q <;> simp only [portReadEffect] <;> (try split) <;> simp
@[simp] theorem portReadEffect_params (q : Port) (w : Word) (s : State) : (portReadEffect q w s).params = s.params := by
  cases q <;> simp only [portReadEffect] <;> (try split) <;> simp
@[simp] theorem portReadEffect_bank0 (q : Port) (w : Word) (s : State) : (portReadEffect q w s).bank0 = s.bank0 := by
  cases q <;> simp only [portReadEffect] <;> (try split) <;> simp
@[simp] theorem portReadEffect_bank1 (q : Port) (w : Word) (s : State) : (portReadEffect q w s).bank1 = s.bank1 := by
  cases q <;> simp only [portReadEffect] <;> (try split) <;> simp
@[simp] theorem portReadEffect_pc (q : Port) (w : Word) (s : State) : (portReadEffect q w s).pc = s.pc := by
  cases q <;> simp only [portReadEffect] <;> (try split) <;> simp
@[simp] theorem portReadEffect_flags (q : Port) (w : Word) (s : State) : (portReadEffect q w s).flags = s.flags := by
  cases q <;> simp only [portReadEffect] <;> (try split) <;> simp
@[simp] theorem portReadEffect_h (q : Port) (w : Word) (s : State) : (portReadEffect q w s).h = s.h := by
  cases q <;> simp only [portReadEffect] <;> (try split) <;> simp
@[simp] theorem portReadEffect_intMd (q : Port) (w : Word) (s : State) : (portReadEffect q w s).intMd = s.intMd := by
  cases q <;> simp only [portReadEffect] <;> (try split) <;> simp
@[simp] theorem portReadEffect_gie (q : Port) (w : Word) (s : State) : (portReadEffect q w s).gie = s.gie := by
  cases q <;> simp only [portReadEffect] <;> (try split) <;> simp
@[simp] theorem portReadEffect_pmem (q : Port) (w : Word) (s : State) : (portReadEffect q w s).pmem = s.pmem := by
  cases q <;> simp only [portReadEffect] <;> (try split) <;> simp
@[simp] theorem portReadEffect_dmem (q : Port) (w : Word) (s : State) : (portReadEffect q w s).dmem = s.dmem := by
  cases q <;> simp only [portReadEffect] <;> (try split) <;> simp
@[simp] theorem portReadEffect_trace (q : Port) (w : Word) (s : State) : (portReadEffect q w s).trace = s.trace := by
  cases q <;> simp only [portReadEffect] <;> (try split) <;> simp
@[simp] theorem portReadEffect_rf (q : Port) (w : Word) (s : State) (k : Bool) (i : RegNo) : (portReadEffect q w s).rf k i = s.rf k i := by
  cases k <;> simp [State.rf]

@[simp] theorem portWriteEffect_coreId (q : Port) (v : Word) (s : State) : (portWriteEffect q v s).coreId = s.coreId := by
  cases q <;> simp only [portWriteEffect] <;> (try split) <;> simp
@[simp] theorem portWriteEffect_params (q : Port) (v : Word) (s : State) : (portWriteEffect q v s).params = s.params := by
  cases q <;> simp only [portWriteEffect] <;> (try split) <;> simp
@[simp] theorem portWriteEffect_bank0 (q : Port) (v : Word) (s : State) : (portWriteEffect q v s).bank0 = s.bank0 := by
  cases q <;> simp only [portWriteEffect] <;> (try split) <;> simp
@[simp] theorem portWriteEffect_bank1 (q : Port) (v : Word) (s : State) : (portWriteEffect q v s).bank1 = s.bank1 := by
  cases q <;> simp only [portWriteEffect] <;> (try split) <;> simp
@[simp] theorem portWriteEffect_pc (q : Port) (v : Word) (s : State) : (portWriteEffect q v s).pc = s.pc := by
  cases q <;> simp only [portWriteEffect] <;> (try split) <;> simp
@[simp] theorem portWriteEffect_flags (q : Port) (v : Word) (s : State) : (portWriteEffect q v s).flags = s.flags := by
  cases q <;> simp only [portWriteEffect] <;> (try split) <;> simp
@[simp] theorem portWriteEffect_h (q : Port) (v : Word) (s : State) : (portWriteEffect q v s).h = s.h := by
  cases q <;> simp only [portWriteEffect] <;> (try split) <;> simp
@[simp] theorem portWriteEffect_intMd (q : Port) (v : Word) (s : State) : (portWriteEffect q v s).intMd = s.intMd := by
  cases q <;> simp only [portWriteEffect] <;> (try split) <;> simp
@[simp] theorem portWriteEffect_gie (q : Port) (v : Word) (s : State) : (portWriteEffect q v s).gie = s.gie := by
  cases q <;> simp only [portWriteEffect] <;> (try split) <;> simp
@[simp] theorem portWriteEffect_pmem (q : Port) (v : Word) (s : State) : (portWriteEffect q v s).pmem = s.pmem := by
  cases q <;> simp only [portWriteEffect] <;> (try split) <;> simp
@[simp] theorem portWriteEffect_dmem (q : Port) (v : Word) (s : State) : (portWriteEffect q v s).dmem = s.dmem := by
  cases q <;> simp only [portWriteEffect] <;> (try split) <;> simp
@[simp] theorem portWriteEffect_trace (q : Port) (v : Word) (s : State) : (portWriteEffect q v s).trace = s.trace := by
  cases q <;> simp only [portWriteEffect] <;> (try split) <;> simp
@[simp] theorem portWriteEffect_rf (q : Port) (v : Word) (s : State) (k : Bool) (i : RegNo) : (portWriteEffect q v s).rf k i = s.rf k i := by
  cases k <;> simp [State.rf]

@[simp] theorem portReadEffect_ioAnswers (q : Port) (w : Word) (s : State) :
    (portReadEffect q w s).oracle.ioAnswers = s.oracle.ioAnswers := by
  cases q <;> simp only [portReadEffect] <;> (try split) <;> simp
@[simp] theorem portReadEffect_irqAnswers (q : Port) (w : Word) (s : State) :
    (portReadEffect q w s).oracle.irqAnswers = s.oracle.irqAnswers := by
  cases q <;> simp only [portReadEffect] <;> (try split) <;> simp
@[simp] theorem portWriteEffect_ioAnswers (q : Port) (v : Word) (s : State) :
    (portWriteEffect q v s).oracle.ioAnswers = s.oracle.ioAnswers := by
  cases q <;> simp only [portWriteEffect] <;> (try split) <;> simp
@[simp] theorem portWriteEffect_irqAnswers (q : Port) (v : Word) (s : State) :
    (portWriteEffect q v s).oracle.irqAnswers = s.oracle.irqAnswers := by
  cases q <;> simp only [portWriteEffect] <;> (try split) <;> simp
@[simp] theorem portWriteEffect_blockAnswers (q : Port) (v : Word) (s : State) :
    (portWriteEffect q v s).oracle.blockAnswers = s.oracle.blockAnswers := by
  cases q <;> simp only [portWriteEffect] <;> (try split) <;> simp
/-- Only a read of the DDR2 status asks for blocks. -/
theorem portReadEffect_blockAnswers {q : Port} (h : q ≠ .ddrCommand) (w : Word) (s : State) :
    (portReadEffect q w s).oracle.blockAnswers = s.oracle.blockAnswers := by
  cases q <;> simp only [portReadEffect] <;> (try split) <;> first | (exact absurd rfl h) | simp

/-! ## `IoRead` and `IoWrite` -/

@[simp] theorem ioReadState_coreId (p : PortNo) (q : Port) (s : State) : (ioReadState p q s).coreId = s.coreId := by simp [ioReadState]
@[simp] theorem ioReadState_params (p : PortNo) (q : Port) (s : State) : (ioReadState p q s).params = s.params := by simp [ioReadState]
@[simp] theorem ioReadState_bank0 (p : PortNo) (q : Port) (s : State) : (ioReadState p q s).bank0 = s.bank0 := by simp [ioReadState]
@[simp] theorem ioReadState_bank1 (p : PortNo) (q : Port) (s : State) : (ioReadState p q s).bank1 = s.bank1 := by simp [ioReadState]
@[simp] theorem ioReadState_pc (p : PortNo) (q : Port) (s : State) : (ioReadState p q s).pc = s.pc := by simp [ioReadState]
@[simp] theorem ioReadState_flags (p : PortNo) (q : Port) (s : State) : (ioReadState p q s).flags = s.flags := by simp [ioReadState]
@[simp] theorem ioReadState_h (p : PortNo) (q : Port) (s : State) : (ioReadState p q s).h = s.h := by simp [ioReadState]
@[simp] theorem ioReadState_intMd (p : PortNo) (q : Port) (s : State) : (ioReadState p q s).intMd = s.intMd := by simp [ioReadState]
@[simp] theorem ioReadState_gie (p : PortNo) (q : Port) (s : State) : (ioReadState p q s).gie = s.gie := by simp [ioReadState]
@[simp] theorem ioReadState_pmem (p : PortNo) (q : Port) (s : State) : (ioReadState p q s).pmem = s.pmem := by simp [ioReadState]
@[simp] theorem ioReadState_dmem (p : PortNo) (q : Port) (s : State) : (ioReadState p q s).dmem = s.dmem := by simp [ioReadState]
@[simp] theorem ioReadState_rf (p : PortNo) (q : Port) (s : State) (k : Bool) (i : RegNo) : (ioReadState p q s).rf k i = s.rf k i := by simp [ioReadState]
@[simp] theorem ioWriteState_coreId (p : PortNo) (q : Port) (v : Word) (s : State) : (ioWriteState p q v s).coreId = s.coreId := by simp [ioWriteState]
@[simp] theorem ioWriteState_params (p : PortNo) (q : Port) (v : Word) (s : State) : (ioWriteState p q v s).params = s.params := by simp [ioWriteState]
@[simp] theorem ioWriteState_bank0 (p : PortNo) (q : Port) (v : Word) (s : State) : (ioWriteState p q v s).bank0 = s.bank0 := by simp [ioWriteState]
@[simp] theorem ioWriteState_bank1 (p : PortNo) (q : Port) (v : Word) (s : State) : (ioWriteState p q v s).bank1 = s.bank1 := by simp [ioWriteState]
@[simp] theorem ioWriteState_pc (p : PortNo) (q : Port) (v : Word) (s : State) : (ioWriteState p q v s).pc = s.pc := by simp [ioWriteState]
@[simp] theorem ioWriteState_flags (p : PortNo) (q : Port) (v : Word) (s : State) : (ioWriteState p q v s).flags = s.flags := by simp [ioWriteState]
@[simp] theorem ioWriteState_h (p : PortNo) (q : Port) (v : Word) (s : State) : (ioWriteState p q v s).h = s.h := by simp [ioWriteState]
@[simp] theorem ioWriteState_intMd (p : PortNo) (q : Port) (v : Word) (s : State) : (ioWriteState p q v s).intMd = s.intMd := by simp [ioWriteState]
@[simp] theorem ioWriteState_gie (p : PortNo) (q : Port) (v : Word) (s : State) : (ioWriteState p q v s).gie = s.gie := by simp [ioWriteState]
@[simp] theorem ioWriteState_pmem (p : PortNo) (q : Port) (v : Word) (s : State) : (ioWriteState p q v s).pmem = s.pmem := by simp [ioWriteState]
@[simp] theorem ioWriteState_dmem (p : PortNo) (q : Port) (v : Word) (s : State) : (ioWriteState p q v s).dmem = s.dmem := by simp [ioWriteState]
@[simp] theorem ioWriteState_rf (p : PortNo) (q : Port) (v : Word) (s : State) (k : Bool) (i : RegNo) : (ioWriteState p q v s).rf k i = s.rf k i := by simp [ioWriteState]
@[simp] theorem ioReadState_trace (p : PortNo) (q : Port) (s : State) :
    (ioReadState p q s).trace = s.trace ++ [.read p (ioReadValue q s)] := by simp [ioReadState]
@[simp] theorem ioWriteState_trace (p : PortNo) (q : Port) (v : Word) (s : State) :
    (ioWriteState p q v s).trace = s.trace ++ [.write p v] := by simp [ioWriteState]

/-! ## The RB FIFO of the DDR2 interface -/

/-- A block that comes into the read buffer comes out of RB: one was there, or one arrived (60_exceptions.md R240, R241). -/
theorem Ddr2.refilled_from {d : Ddr2} {w : Word} {k : Nat} {free : Bool} (h : d.refilled w k free = true) :
    d.rb ≠ [] ∨ d.arrivals w k ≠ 0 := by
  by_cases hrb : d.rb = []
  · right
    unfold Ddr2.arrivals
    cases hr : d.rbReady <;> simp [Ddr2.refilled, hrb, hr] at h ⊢
    · split <;> simp_all
    · omega
  · exact .inl hrb

/-! ## `MemRead` and `MemWrite` -/

/-- Everything `MemRead` can do when it answers (20_memory.md R64). -/
theorem memRead_cases {ea v : Word} {s t : State} (h : memRead ea s = .ok (v, t)) :
    (∃ a, classify s.params.addrDecode ea = .dmem a ∧ v = dmemRead s.dmem a ∧ t = s) ∨
    (∃ p q, classify s.params.addrDecode ea = .io p ∧ portOf s.coreId p = some q ∧ v = ioReadValue q s ∧
      t = ioReadState p q s) := by
  unfold memRead at h
  split at h
  · next a hc => cases h; exact .inl ⟨a, hc, rfl, rfl⟩
  · next p hc =>
    split at h
    · cases h
    · next q hq => cases h; exact .inr ⟨p, q, hc, hq, rfl, rfl⟩
  · cases h

/-- Everything `MemWrite` can do when it answers (20_memory.md R65). -/
theorem memWrite_cases {ea v : Word} {s t : State} (h : memWrite ea v s = .ok t) :
    (∃ a, classify s.params.addrDecode ea = .dmem a ∧ t = s.storeWord a v) ∨
    (∃ p q, classify s.params.addrDecode ea = .io p ∧ portOf s.coreId p = some q ∧ t = ioWriteState p q v s) := by
  unfold memWrite at h
  split at h
  · next a hc => cases h; exact .inl ⟨a, hc, rfl⟩
  · next p hc =>
    split at h
    · cases h
    · next q hq => cases h; exact .inr ⟨p, q, hc, hq, rfl⟩
  · cases h

/-- Why `MemRead` can be refused: an undecoded address, or a port the core does not have (20_memory.md R66, R68). -/
theorem memRead_refused {ea : Word} {s : State} {r : Refusal} (h : memRead ea s = .error r) :
    r = .undecodedAddress ∨ r = .noSuchPort := by
  unfold memRead at h
  split at h
  · cases h
  · split at h
    · cases h; exact .inr rfl
    · cases h
  · cases h; exact .inl rfl

/-- Why `MemWrite` can be refused (20_memory.md R66, R68). -/
theorem memWrite_refused {ea v : Word} {s : State} {r : Refusal} (h : memWrite ea v s = .error r) :
    r = .undecodedAddress ∨ r = .noSuchPort := by
  unfold memWrite at h
  split at h
  · cases h
  · split at h
    · cases h; exact .inr rfl
    · cases h
  · cases h; exact .inl rfl

/-- Everything LD can do when it answers (45_load_store.md R170). -/
theorem loadOp_cases {d b : RegNo} {o : Operand} {s t : State} (h : loadOp d b o s = .next t) :
    ∃ v s1, memRead (effectiveAddress s b o) s = .ok (v, s1) ∧ t = (s1.setX d v).freeNZ.advance := by
  unfold loadOp at h
  split at h
  · next v s1 hm => cases h; exact ⟨v, s1, hm, rfl⟩
  · cases h

/-- Everything ST can do when it answers (45_load_store.md R171). -/
theorem storeOp_cases {d b : RegNo} {o : Operand} {s t : State} (h : storeOp d b o s = .next t) :
    ∃ s1, memWrite (effectiveAddress s b o) (s.x d) s = .ok s1 ∧ t = s1.advance := by
  unfold storeOp at h
  split at h
  · next s1 hm => cases h; exact ⟨s1, hm, rfl⟩
  · cases h

/-! ## Addresses -/

/-- An address below 2048 is data memory, whatever `ADDR_DECODE` says (20_memory.md R62). -/
theorem classify_dmem (m : AddrDecode) {ea : Word} (h : ea.toNat < 2048) : classify m ea = .dmem (ea.extractLsb' 0 11) := by
  have h1 : ea.extractLsb' 8 4 ≠ 0b1111#4 := by
    intro e
    have := congrArg BitVec.toNat e
    simp [BitVec.extractLsb'_toNat, Nat.shiftRight_eq_div_pow] at this
    omega
  have h2 : ea.extractLsb' 11 21 = 0#21 := by
    apply BitVec.eq_of_toNat_eq
    simp [BitVec.extractLsb'_toNat, Nat.shiftRight_eq_div_pow]
    omega
  simp [classify, h1, h2]

/-- An address 0xF00 to 0xFFF is the I/O window, whatever `ADDR_DECODE` says (20_memory.md R62). -/
theorem classify_io (m : AddrDecode) {ea : Word} (hl : 0xF00 ≤ ea.toNat) (hh : ea.toNat < 0x1000) :
    classify m ea = .io (ea.extractLsb' 0 5) := by
  have h1 : ea.extractLsb' 12 20 = 0#20 := by
    apply BitVec.eq_of_toNat_eq
    simp [BitVec.extractLsb'_toNat, Nat.shiftRight_eq_div_pow]
    omega
  have h2 : ea.extractLsb' 8 4 = 0b1111#4 := by
    apply BitVec.eq_of_toNat_eq
    simp [BitVec.extractLsb'_toNat, Nat.shiftRight_eq_div_pow]
    omega
  simp [classify, h1, h2]

end Sys2Proof.Machine
end

