-- ==== Sys2Proof/Laws/Step.lean ====
section
/-! SUPPORT. What a step and an instruction can do, said once each: the case lists that proofs cite instead of unfolding
`step` and `exec`. -/

namespace Sys2Proof.Machine

/-- Everything a step that answers a next state did: it took an interrupt, or it executed the instruction at `pc`. -/
theorem step_cases {s t : State} (h : step s = .next t) :
    (∃ k, interruptNow s = some k ∧ t = interruptEntry k (atBoundary s)) ∨
    (∃ i, Runs s i ∧ exec i (atBoundary s) = .next t) := by
  unfold step at h
  split at h
  · next k hk => cases h; exact .inl ⟨k, hk, rfl⟩
  · next hk =>
    split at h
    · cases h
    · next w hw =>
      split at h
      · cases h
      · next i hi => exact .inr ⟨i, ⟨hk, w, hw, hi⟩, h⟩

/-- Everything an instruction that answers a next state did, by its shape: a result to the destination with its flags; MUL;
Bc; BL and BLR; the three forms of BR; LD; ST. -/
theorem exec_cases {i : Instr} {s t : State} (h : exec i s = .next t) :
    (∃ d r f, destOf i = some d ∧ t = writeResultFlags d r f s ∧
      familyOf i ∈ [Family.logic, .add, .sub, .not, .ldh, .ldc, .lit, .ror] ∧
      f.n = r.getLsbD 31 ∧ f.z = decide (r = 0#32) ∧
      (familyOf i ∉ [Family.add, .sub, .ror] → f.c = s.flags.c) ∧ (familyOf i ∉ [Family.add, .sub] → f.v = s.flags.v)) ∨
    (∃ d x y, destOf i = some d ∧ familyOf i = .mul ∧
      t = ((s.setX d (x * y)).setH (productHigh s.params.mulSignedness x y)).advance) ∨
    (familyOf i = .bc ∧ destOf i = none ∧ ∃ b off, t = branchIf b off s) ∨
    ((familyOf i = .bl ∨ familyOf i = .blr) ∧ destOf i = some 15#4 ∧
      ∃ p, t = ((s.setX 15#4 (linkValue s.pc)).setPc p).freeNZ) ∨
    (∃ a, i = .brReg a ∧ t = s.setPc (targetOf (s.rf false a))) ∨
    (∃ k, i = .brMode k ∧ t = (s.setMode (k.getLsbD 1) (k.getLsbD 0)).advance) ∨
    (∃ a, i = .brRet a ∧ s.intMd = true ∧ t = interruptReturn a s) ∨
    (∃ d b o v s1, familyOf i = .ld ∧ destOf i = some d ∧ accessAddress s i = some (effectiveAddress s b o) ∧
      memRead (effectiveAddress s b o) s = .ok (v, s1) ∧ t = (s1.setX d v).freeNZ.advance) ∨
    (∃ d b o s1, familyOf i = .st ∧ destOf i = none ∧ accessAddress s i = some (effectiveAddress s b o) ∧
      memWrite (effectiveAddress s b o) (s.x d) s = .ok s1 ∧ t = s1.advance) := by
  cases i
  case ldRL d b n =>
    obtain ⟨v, s1, h1, h2⟩ := loadOp_cases h
    exact .inr (.inr (.inr (.inr (.inr (.inr (.inr (.inl ⟨d, b, .lit n, v, s1, rfl, rfl, rfl, h1, h2⟩)))))))
  case ldRR d b a =>
    obtain ⟨v, s1, h1, h2⟩ := loadOp_cases h
    exact .inr (.inr (.inr (.inr (.inr (.inr (.inr (.inl ⟨d, b, .reg a, v, s1, rfl, rfl, rfl, h1, h2⟩)))))))
  case stRL d b n =>
    obtain ⟨s1, h1, h2⟩ := storeOp_cases h
    exact .inr (.inr (.inr (.inr (.inr (.inr (.inr (.inr ⟨d, b, .lit n, s1, rfl, rfl, rfl, h1, h2⟩)))))))
  case stRR d b a =>
    obtain ⟨s1, h1, h2⟩ := storeOp_cases h
    exact .inr (.inr (.inr (.inr (.inr (.inr (.inr (.inr ⟨d, b, .reg a, s1, rfl, rfl, rfl, h1, h2⟩)))))))
  case brReg a =>
    simp only [exec, execBrReg] at h
    split at h
    · cases h
    · cases h; exact .inr (.inr (.inr (.inr (.inl ⟨a, rfl, rfl⟩))))
  case brRet a =>
    simp only [exec, execBrRet] at h
    split at h
    · next hm => cases h; exact .inr (.inr (.inr (.inr (.inr (.inr (.inl ⟨a, rfl, hm, rfl⟩))))))
    · cases h
  case brMode k => cases h; exact .inr (.inr (.inr (.inr (.inr (.inl ⟨k, rfl, rfl⟩)))))
  case bl => cases h; exact .inr (.inr (.inr (.inl ⟨.inl rfl, rfl, _, rfl⟩)))
  case blr => cases h; exact .inr (.inr (.inr (.inl ⟨.inr rfl, rfl, _, rfl⟩)))
  case mulRL => cases h; exact .inr (.inl ⟨_, _, _, rfl, rfl, rfl⟩)
  case mulRR => cases h; exact .inr (.inl ⟨_, _, _, rfl, rfl, rfl⟩)
  all_goals first
    | (cases h; exact .inr (.inr (.inl ⟨rfl, rfl, _, _, rfl⟩)))
    | (cases h; exact .inl ⟨_, _, _, rfl, rfl, by simp [familyOf], rfl, rfl, by simp [familyOf] <;> rfl,
        by simp [familyOf] <;> rfl⟩)

end Sys2Proof.Machine
end

