-- ==== Sys2Proof/Tests/Slice0.lean ====
section
/-! SUPPORT. Tests on fixed values, each by `decide`. Words are written out from the encoding lines of 30_encoding.md R100; expected
results are those of 95_test_vectors.md or calculated by hand from the rule named. Part 3 shows, for every statement with
hypotheses, states and operands that meet them. -/

namespace Sys2Proof.Machine.Tests

open Sys2Proof Sys2Proof.Machine

/-! ## 1. Words -/

theorem test_wellformed_refuses_op0111_word : wellFormedWord 0b011100100000110010#18 = false := by decide
theorem test_wellformed_refuses_op1010_word : wellFormedWord 0b101000000000000000#18 = false := by decide
theorem test_wellformed_accepts_ldc_and_blr :
    wellFormedWord 0b011100100000110001#18 = true ∧ wellFormedWord 0b101000000000100000#18 = true := by decide
theorem test_decode_refuses_both_groups :
    decode 0x1C832#18 = .error .op0111 ∧ decode 0x1C83F#18 = .error .op0111 ∧ decode 0x28003#18 = .error .op1010 := by decide

/- Each word: op, d, b, IR[5], then IR[4:0] or IR[4] and a. -/
theorem test_decode_and : decode 0b0000_0001_0010_0_11111#18 = .ok (.andRL 1 2 31) ∧
    decode 0b0000_0001_0010_1_0_0011#18 = .ok (.andRR 1 2 3) := by decide
theorem test_decode_bic : decode 0b0001_0010_0011_0_00101#18 = .ok (.bicRL 2 3 5) ∧
    decode 0b0001_0001_0010_1_0_0011#18 = .ok (.bicRR 1 2 3) := by decide
theorem test_decode_or : decode 0b0010_0001_0010_0_00000#18 = .ok (.orRL 1 2 0) ∧
    decode 0b0010_0001_0010_1_0_0011#18 = .ok (.orRR 1 2 3) := by decide
theorem test_decode_xor : decode 0b0011_0001_0010_0_10101#18 = .ok (.xorRL 1 2 21) ∧
    decode 0b0011_0001_0010_1_0_0011#18 = .ok (.xorRR 1 2 3) := by decide
theorem test_decode_add : decode 0b0100_0001_0010_0_00001#18 = .ok (.addRL 1 2 1) ∧
    decode 0b0100_0001_0010_1_0_0011#18 = .ok (.addRR 1 2 3) := by decide
theorem test_decode_sub : decode 0b0101_0001_0010_0_00001#18 = .ok (.subRL 1 2 1) ∧
    decode 0b0101_0001_0010_1_0_0011#18 = .ok (.subRR 1 2 3) := by decide
theorem test_decode_mul : decode 0b0110_0001_0010_0_11111#18 = .ok (.mulRL 1 2 31) ∧
    decode 0b0110_0001_0010_1_0_0011#18 = .ok (.mulRR 1 2 3) := by decide
/- The b field, here 0111, and IR[4] of the register form, here 1 for AND, are don't-care bits (R102). -/
theorem test_decode_not : decode 0b0111_0010_0111_0_10101#18 = .ok (.notRL 2 21) ∧
    decode 0b0111_0010_0111_1_0_0011#18 = .ok (.notRR 2 3) := by decide
theorem test_decode_ldh_ldc : decode 0b0111_0010_0000_1_1_0000#18 = .ok (.ldh 2) ∧
    decode 0b0111_0100_0000_1_1_0001#18 = .ok (.ldc 4) := by decide
theorem test_decode_lit : decode 0b1000_0001_1111111110#18 = .ok (.lit 1 1022) := by decide
theorem test_decode_ror : decode 0b1001_1110_1111_0_10101#18 = .ok (.rorRL 14 15 21) ∧
    decode 0b1001_0001_0010_1_0_0011#18 = .ok (.rorRR 1 2 3) := by decide
theorem test_decode_blr : decode 0b1010_0000_0000_1_0_0011#18 = .ok (.blr 3) := by decide
theorem test_decode_br : decode 0b1011_0000_0000_1_0_1111#18 = .ok (.brReg 15) ∧
    decode 0b1011_0000_0000_0_000_01#18 = .ok (.brMode 1) ∧ decode 0b1011_0000_0000_1_1_0001#18 = .ok (.brRet 1) := by decide
theorem test_decode_ld : decode 0b1100_0001_0010_0_00011#18 = .ok (.ldRL 1 2 3) ∧
    decode 0b1100_0001_0010_1_0_0011#18 = .ok (.ldRR 1 2 3) := by decide
theorem test_decode_st : decode 0b1101_0001_0010_0_11111#18 = .ok (.stRL 1 2 31) ∧
    decode 0b1101_0001_0010_1_0_0011#18 = .ok (.stRR 1 2 3) := by decide
theorem test_decode_bc_first : decode 0b1110_0000_0000000001#18 = .ok (.beq 1) ∧
    decode 0b1110_0001_0000000010#18 = .ok (.bneq 2) ∧ decode 0b1110_0010_1111111011#18 = .ok (.bcs 1019) ∧
    decode 0b1110_0011_1111111011#18 = .ok (.bcc 1019) ∧ decode 0b1110_0100_0000000000#18 = .ok (.bn 0) ∧
    decode 0b1110_0101_0000000000#18 = .ok (.bnn 0) ∧ decode 0b1110_0110_0000000000#18 = .ok (.bv 0) ∧
    decode 0b1110_0111_0000000000#18 = .ok (.bnv 0) := by decide
theorem test_decode_bc_second : decode 0b1110_1000_0000000000#18 = .ok (.bhi 0) ∧
    decode 0b1110_1001_0000000000#18 = .ok (.bls 0) ∧ decode 0b1110_1010_0000000000#18 = .ok (.bgeq 0) ∧
    decode 0b1110_1011_1111111011#18 = .ok (.blss 1019) ∧ decode 0b1110_1100_0000000000#18 = .ok (.bgtr 0) ∧
    decode 0b1110_1101_0000000000#18 = .ok (.bleq 0) ∧ decode 0b1110_1110_1111111111#18 = .ok (.bt 1023) ∧
    decode 0b1110_1111_0000000000#18 = .ok (.bf 0) := by decide
theorem test_decode_bl : decode 0b1111_00_000000001111#18 = .ok (.bl 15) ∧
    decode 0b1111_11_000000000010#18 = .ok (.bl 12290) := by decide
theorem test_decode_ignores_x_bits : decode 0x004B3#18 = .ok (.andRR 1 2 3) ∧ decode 0x2C010#18 = .ok (.brMode 0) := by decide
theorem test_decode_table_word : decodeTableWord 24 0x3C00F = some (.bl 15) ∧ decodeTableWord 24 0x28003 = none := by decide

/-! ## 2. One step each -/

/-- The flags from four bits NZCV. -/
def nzcv (b : BitVec 4) : Flags := savedFlags (b.setWidth 32 <<< 28)

/-- A state at address 100 with R2, R3 and the flags given. -/
def at100 (r2 r3 : Word) (f : BitVec 4) : State :=
  (((State.reset.setPc 100#12).setX 2#4 r2).setX 3#4 r3).setFlags (nzcv f)

/-- What is read of the state after one step from `s` with the word `w` at `pc`; none if there is no next state. -/
def after {α : Type} (w : Nat) (s : State) (read : State → α) : Option α :=
  match step (s.withFetchWord 24 w) with
  | .next t => some (read t)
  | .fault _ => none
  | .refused _ => none

/-- Why the step from `s` with the word `w` at `pc` is refused, if it is. -/
def why (w : Nat) (s : State) : Option Refusal :=
  match step (s.withFetchWord 24 w) with
  | .next _ => none
  | .fault _ => none
  | .refused e => some e

/-- R1 and the flags. -/
def r1 (t : State) : Word × Flags := (t.x 1#4, t.flags)
/-- R2 and the flags. -/
def r2 (t : State) : Word × Flags := (t.x 2#4, t.flags)

theorem test_and_rl_keeps_cv : after 0x0049F (at100 0xFFFFFFFF#32 0#32 0b0011#4) r1 = some (0x1F#32, nzcv 0b0011#4) := by decide
theorem test_and_rl_zero : after 0x00480 (at100 0xFFFFFFFF#32 0#32 0b0000#4) r1 = some (0#32, nzcv 0b0100#4) := by decide
theorem test_and_rr_negative :
    after 0x004B3 (at100 0xFFFF0000#32 0x8FF00FF0#32 0b0000#4) r1 = some (0x8FF00000#32, nzcv 0b1000#4) := by decide
theorem test_bic_rl : after 0x0449F (at100 0x1F#32 0#32 0b0000#4) r1 = some (0#32, nzcv 0b0100#4) := by decide
theorem test_bic_rr : after 0x044A3 (at100 0xFFFFFFFF#32 0xFFFF#32 0b0000#4) r1 = some (0xFFFF0000#32, nzcv 0b1000#4) := by decide
theorem test_or_rl : after 0x08480 (at100 0#32 0#32 0b1011#4) r1 = some (0#32, nzcv 0b0111#4) := by decide
theorem test_or_rr : after 0x084A3 (at100 0x80000000#32 1#32 0b0000#4) r1 = some (0x80000001#32, nzcv 0b1000#4) := by decide
theorem test_xor_rl : after 0x0C495 (at100 0xFFFFFFFF#32 0#32 0b0000#4) r1 = some (0xFFFFFFEA#32, nzcv 0b1000#4) := by decide
theorem test_xor_rr_self : after 0x0C4A2 (at100 0xDEADBEEF#32 0#32 0b1010#4) r1 = some (0#32, nzcv 0b0110#4) := by decide
theorem test_add_rl_overflow : after 0x10481 (at100 0x7FFFFFFF#32 0#32 0b0000#4) r1 = some (0x80000000#32, nzcv 0b1001#4) := by decide
theorem test_add_rr_wraps : after 0x104A3 (at100 0xFFFFFFFF#32 1#32 0b0000#4) r1 = some (0#32, nzcv 0b0110#4) := by decide
theorem test_add_rr_both :
    after 0x104A3 (at100 0x80000000#32 0xFFFFFFFF#32 0b0000#4) r1 = some (0x7FFFFFFF#32, nzcv 0b0011#4) := by decide
theorem test_sub_rl_borrow : after 0x14481 (at100 0#32 0#32 0b0000#4) r1 = some (0xFFFFFFFF#32, nzcv 0b1000#4) := by decide
theorem test_sub_rr_overflow :
    after 0x144A3 (at100 0x7FFFFFFF#32 0xFFFFFFFF#32 0b0000#4) r1 = some (0x80000000#32, nzcv 0b1001#4) := by decide
theorem test_sub_rr_equal : after 0x144A3 (at100 5#32 5#32 0b0000#4) r1 = some (0#32, nzcv 0b0110#4) := by decide
theorem test_mul_rl_high : after 0x1849F (at100 0x12345678#32 0#32 0b1111#4) (fun t => (t.x 1#4, t.h, t.flags)) =
    some (0x34567888#32, 2#32, nzcv 0b1111#4) := by decide

/-- `s` with the parameter MUL_SIGNEDNESS given. -/
def withSignedness (m : MulSignedness) (s : State) : State := { s with params := { s.params with mulSignedness := m } }
theorem test_mul_rr_signed : after 0x184A3 (withSignedness .signed (at100 0xFFFFFFFF#32 0xFFFFFFFF#32 0b0000#4))
    (fun t => (t.x 1#4, t.h)) = some (1#32, 0#32) := by decide
theorem test_mul_rr_unsigned : after 0x184A3 (withSignedness .unsigned (at100 0xFFFFFFFF#32 0xFFFFFFFF#32 0b0000#4))
    (fun t => (t.x 1#4, t.h)) = some (1#32, 0xFFFFFFFE#32) := by decide

/-- `s` with the parameter NOT_MODE given. -/
def withNotMode (m : NotMode) (s : State) : State := { s with params := { s.params with notMode := m } }
theorem test_not_rl_negate : after 0x1C805 (at100 0#32 0#32 0b0000#4) r2 = some (0xFFFFFFFB#32, nzcv 0b1000#4) := by decide
theorem test_not_rl_complement :
    after 0x1C805 (withNotMode .complement (at100 0#32 0#32 0b0000#4)) r2 = some (0xFFFFFFFA#32, nzcv 0b1000#4) := by decide
theorem test_not_rr_negate : after 0x1C823 (at100 0#32 0xFFFFFFFF#32 0b0000#4) r2 = some (1#32, nzcv 0b0000#4) := by decide
theorem test_not_rr_complement :
    after 0x1C823 (withNotMode .complement (at100 0#32 0x80000000#32 0b0000#4)) r2 = some (0x7FFFFFFF#32, nzcv 0b0000#4) := by decide
theorem test_ldh : after 0x1C830 ((at100 0#32 0#32 0b0000#4).setH 0x80000001#32) (fun t => (r2 t, t.h)) =
    some ((0x80000001#32, nzcv 0b1000#4), 0x80000001#32) := by decide
theorem test_ldc_set : after 0x1D031 (at100 0#32 0#32 0b1010#4) (fun t => (t.x 4#4, t.flags)) = some (1#32, nzcv 0b0010#4) := by decide
theorem test_ldc_clear : after 0x1D031 (at100 0#32 0#32 0b1001#4) (fun t => (t.x 4#4, t.flags)) = some (0#32, nzcv 0b0101#4) := by decide
theorem test_lit : after 0x207FF (at100 0#32 0#32 0b1111#4) r1 = some (0x3FF#32, nzcv 0b0011#4) := by decide
theorem test_ror_rl_zero_sets_c : after 0x24480 (at100 0x80000001#32 0#32 0b0001#4) r1 = some (0x80000001#32, nzcv 0b1011#4) := by decide
theorem test_ror_rl_31 : after 0x2449F (at100 0x80000000#32 0#32 0b0000#4) r1 = some (1#32, nzcv 0b0010#4) := by decide
theorem test_ror_rr_36 : after 0x244A3 (at100 0x12345678#32 36#32 0b0000#4) r1 = some (0x81234567#32, nzcv 0b1010#4) := by decide
theorem test_blr : after 0x28023 (at100 0#32 0xABCDE123#32 0b0011#4) (fun t => (t.x 15#4, t.pc, t.flags.c, t.flags.v)) =
    some (0x65#32, 291#12, true, true) := by decide
theorem test_blr_r15 : after 0x2802F ((at100 0#32 0#32 0b0000#4).setX 15#4 0x40#32) (fun t => (t.x 15#4, t.pc)) =
    some (0x65#32, 64#12) := by decide
theorem test_br_bank0 : after 0x2C02F ((at100 0#32 0#32 0b1010#4).setX 15#4 3#32) (fun t => (t.pc, t.flags)) =
    some (3#12, nzcv 0b1010#4) := by decide
theorem test_br_bank0_in_handler : why 0x2C02F ((at100 0#32 0#32 0b0000#4).setMode true false) =
    some .brBank0InInterruptMode := by decide
theorem test_br_mode_1 : after 0x2C001 (at100 0#32 0#32 0b0000#4) (fun t => (t.intMd, t.gie, t.pc)) = some (false, true, 101#12) := by decide
theorem test_br_mode_2 : after 0x2FFDE (at100 0#32 0#32 0b0000#4) (fun t => (t.intMd, t.gie, t.pc)) =
    some (true, false, 101#12) := by decide
theorem test_br_return : after 0x2C03F (((at100 0#32 0#32 0b0101#4).setMode true false).setX 15#4 0xA0000016#32)
    (fun t => (t.pc, t.flags, t.intMd, t.gie)) = some (22#12, nzcv 0b1010#4, false, true) := by decide
theorem test_br_return_outside : why 0x2C03F (at100 0#32 0#32 0b0000#4) = some .brReturnOutsideInterruptMode := by decide
theorem test_ld_rl_port : after 0x30482 ((at100 0xF00#32 0#32 0b0000#4).setOracle ⟨[0x1234#32], [], [], 0⟩)
    (fun t => (t.x 1#4, t.trace)) = some (0x1234#32, [.read 2#5 0x1234#32]) := by decide
theorem test_ld_rl_undecoded : why 0x30480 (at100 0xEFF#32 0#32 0b0000#4) = some .undecodedAddress := by decide
theorem test_ld_rr_wraps :
    after 0x304A3 ((at100 0xFFFFFFFF#32 1#32 0b0000#4).storeWord 0#11 0x11#32) (fun t => t.x 1#4) = some 0x11#32 := by decide
theorem test_st_rl : after 0x3449F ((at100 0x64#32 0#32 0b1010#4).setX 1#4 0xAABBCCDD#32) (fun t => (t.dmem, t.flags)) =
    some ([(131, 0xAABBCCDD#32)], nzcv 0b1010#4) := by decide
theorem test_st_rl_no_port : why 0x3449F (at100 0xF00#32 0#32 0b0000#4) = some .noSuchPort := by decide
theorem test_st_rr_leds : after 0x344A3 ((at100 0xF00#32 0xC#32 0b0000#4).setX 1#4 0x55#32)
    (fun t => (t.dev.leds, t.dmem, t.trace)) = some (0x55#8, [], [.write 12#5 0x55#32]) := by decide

/-- Whether a condition holds for NZCV = 0000 to 1111, the leftmost digit for 0000, as 95_test_vectors.md prints it. -/
def table (c : Cond) : Nat :=
  (List.range 16).foldl (fun n k => 2 * n + (condHolds c (nzcv (BitVec.ofNat 4 k))).toNat) 0
theorem test_conditions_first : table .eq = 0b0000111100001111 ∧ table .neq = 0b1111000011110000 ∧
    table .cs = 0b0011001100110011 ∧ table .cc = 0b1100110011001100 ∧ table .n = 0b0000000011111111 ∧
    table .nn = 0b1111111100000000 ∧ table .v = 0b0101010101010101 ∧ table .nv = 0b1010101010101010 := by decide
theorem test_conditions_second : table .hi = 0b0011000000110000 ∧ table .ls = 0b1100111111001111 ∧
    table .geq = 0b1010101001010101 ∧ table .lss = 0b0101010110101010 ∧ table .gtr = 0b1010000001010000 ∧
    table .leq = 0b0101111110101111 ∧ table .always = 0b1111111111111111 ∧ table .never = 0 := by decide

/-- The pc after the word `w` at address `p` with the flags NZCV given. -/
def goes (w : Nat) (p : PAddr) (f : BitVec 4) : Option PAddr := after w ((at100 0#32 0#32 f).setPc p) (·.pc)
theorem test_beq : goes 0x38001 7#12 0b0100#4 = some 9#12 := by decide
theorem test_bneq : goes 0x387FD 5#12 0b0000#4 = some 3#12 := by decide
theorem test_bcs_taken : goes 0x38BFB 21#12 0b0010#4 = some 17#12 := by decide
theorem test_bcs_not_taken : goes 0x38BFB 21#12 0b0000#4 = some 22#12 := by decide
theorem test_bcc : goes 0x38FFB 21#12 0b0000#4 = some 17#12 := by decide
theorem test_bn : goes 0x39001 7#12 0b1000#4 = some 9#12 := by decide
theorem test_bnn : goes 0x39401 7#12 0b0111#4 = some 9#12 := by decide
theorem test_bv : goes 0x39801 7#12 0b0001#4 = some 9#12 := by decide
theorem test_bnv : goes 0x39C01 7#12 0b1110#4 = some 9#12 := by decide
theorem test_bhi : goes 0x3A001 7#12 0b0010#4 = some 9#12 := by decide
theorem test_bls : goes 0x3A401 7#12 0b0110#4 = some 9#12 := by decide
theorem test_bgeq : goes 0x3A801 7#12 0b1001#4 = some 9#12 := by decide
theorem test_blss : goes 0x3AFFB 8#12 0b1000#4 = some 4#12 := by decide
theorem test_bgtr : goes 0x3B001 7#12 0b1001#4 = some 9#12 := by decide
theorem test_bleq : goes 0x3B401 7#12 0b0001#4 = some 9#12 := by decide
theorem test_bt_backward_wraps : goes 0x3BA00 100#12 0b0000#4 = some 3685#12 := by decide
theorem test_bt_forward_wraps : goes 0x3B9FF 4000#12 0b0000#4 = some 416#12 := by decide
theorem test_bf : goes 0x3BC05 7#12 0b1111#4 = some 8#12 := by decide
theorem test_bl : after 0x3C00F ((at100 0#32 0#32 0b0011#4).setPc 0#12) (fun t => (t.x 15#4, t.pc, t.flags.c, t.flags.v)) =
    some (1#32, 16#12, true, true) := by decide
theorem test_bl_ignores_upper_offset : after 0x3F002 ((at100 0#32 0#32 0b0000#4).setPc 50#12) (fun t => (t.x 15#4, t.pc)) =
    some (0x33#32, 53#12) := by decide

theorem test_unassigned_word : why 0x28003 (at100 0#32 0#32 0b0000#4) = some (.unassignedEncoding .op1010) := by decide
theorem test_unloaded_word : step State.reset = .fault .unloadedProgramWord := rfl
theorem test_message_header : messageHeader 0#8 2#8 11#8 0#8 = 0x00020B00#32 := by decide
/-- A block whose words are 10 to 17. -/
def block : Vector Word 8 := #v[10, 11, 12, 13, 14, 15, 16, 17]
theorem test_ddr_block_arrives : let d := { Devices.reset.ddr2 with af := [{ block := 5#23, read := true }] }
    (d.arrivals 0x40000000#32 1, d.refilled 0x40000000#32 1 false) = (1, true) ∧
    ((d.observe 0x40000000#32 1 0 true [block]).readBuf, (d.observe 0x40000000#32 1 0 true [block]).rb) = (block, []) ∧
    (d.observe 0#32 1 0 false [block]).rb = [block] := by decide
theorem test_ddr_word_is_read_again : let d := { Devices.reset.ddr2 with readBuf := block, rbReady := true, index := 7#3 }
    (d.word, d.get.index, d.get.rbReady) = (17#32, 0#3, false) ∧ ({ d with index := 2#3 }.get.command 0#32).word = 10#32 := by
  decide
theorem test_rs_clear : (Rs232.command { Devices.reset.rs232 with rxReady := true, rxBuf := some 0x41#8 } 0xC#32) =
    { Devices.reset.rs232 with enRx := true } := by decide
theorem test_command_register_read : (NetNode.status { Devices.reset.netNode with enMsgIn := true } 0x3#32) = 0x00000B13#32 := by decide

/-! ## 3. States and operands that meet the hypotheses of each statement, clause by clause -/

/-- A state with `GIE` = 1 and every source enabled, whose next boundary is answered by `a`. -/
def asking (core : Fin 12) (a : IrqAnswer) : State :=
  let s := ((at100 0#32 0#32 0b1010#4).setMode false true).setOracle ⟨[], [a], [], 0⟩
  let s := s.setNetNode { s.dev.netNode with enMsgIn := true, enOutEmpty := true }
  { s.setRs232 { s.dev.rs232 with enRx := true } with coreId := core }

/-- `s` as core `c`. -/
def onCore (c : Fin 12) (s : State) : State := { s with coreId := c }
/-- `s` with the parameter ADDR_DECODE given. -/
def withDecode (m : AddrDecode) (s : State) : State := { s with params := { s.params with addrDecode := m } }
/-- A small state. -/
def small : State := at100 0x7F0#32 0x10#32 0b0010#4

theorem test_saved_word : savedWord (nzcv 0b1010#4) 0xFFFF#16 22#12 = 0xAFFFF016#32 := by decide
theorem test_entry : after 0 (asking 0 ⟨false, true, false, true⟩) (fun t => (t.pc, t.intMd, t.gie, t.flags)) =
    some (3#12, true, false, nzcv 0b1010#4) := by decide

theorem meets_DontCareBitsDoNotMatter :
    decode 0x004B3#18 = .ok (.andRR 1 2 3) ∧ (0x004B3#18 ^^^ 0x004A3#18) &&& significant (.andRR 1 2 3) = 0#18 ∧
    (0x3002#14).setWidth 12 = (0x0002#14).setWidth 12 := by decide
theorem meets_DecodeRefusesExactlyUnassigned :
    decode 0x1C832#18 = .error .op0111 ∧ decode 0x1FFFF#18 = .error .op0111 ∧ decode 0x28000#18 = .error .op1010 ∧
    decode 0x1C831#18 = .ok (.ldc 2) ∧ decode 0x28020#18 = .ok (.blr 0) := by decide
theorem meets_StepRunsDecodedInstruction_gie_clear :
    interruptNow (small.withFetchWord 24 0x104A3) = none ∧ fetch (small.withFetchWord 24 0x104A3) = some 0x104A3#18 ∧
    decode 0x104A3#18 = .ok (.addRR 1 2 3) ∧ (small.withFetchWord 24 0x104A3).gie = false := by decide
theorem meets_StepRunsDecodedInstruction_gie_set :
    interruptNow ((asking 11 ⟨true, true, true, false⟩).withFetchWord 24 0x104A3) = none ∧
    fetch ((asking 11 ⟨true, true, true, false⟩).withFetchWord 24 0x104A3) = some 0x104A3#18 := by decide
theorem meets_StepTakesInterrupt :
    interruptNow (asking 0 ⟨true, true, true, true⟩) = some .msgInput ∧
    interruptNow (asking 0 ⟨false, true, true, true⟩) = some .msgOutput ∧
    interruptNow (asking 11 ⟨false, false, true, true⟩) = some .rs232 := by decide
theorem meets_StepStopsAtTheFetch_unloaded : interruptNow small = none ∧ readCell small.pmem small.pc.toNat = none := by decide
theorem meets_StepStopsAtTheFetch_unassigned :
    interruptNow (small.withFetchWord 24 0x28000) = none ∧
    readCell (small.withFetchWord 24 0x28000).pmem (small.withFetchWord 24 0x28000).pc.toNat = some 0x28000#18 ∧
    decode 0x28000#18 = .error .op1010 := by decide
theorem meets_MulResult : (withSignedness .signed small).params.mulSignedness = .signed ∧
    (withSignedness .unsigned small).params.mulSignedness = .unsigned := by decide
theorem meets_NotResult : small.params.notMode = .negate ∧ (withNotMode .complement small).params.notMode = .complement := by decide
theorem meets_BrBankZeroResult_and_BrReturnResult : small.intMd = false ∧ (small.setMode true false).intMd = true := by decide
theorem meets_LoadFromDataMemory_and_StoreToDataMemory :
    (small.x 2#4 + (15#5).setWidth 32).toNat = 2047 ∧ (small.x 0#4 + (0#5).setWidth 32).toNat = 0 ∧
    (small.x 2#4 + small.x 0#4).toNat < 2048 := by decide
/-- `small` as core `c` with the base register R2 at `base`. -/
def based (c : Fin 12) (base : Word) : State := onCore c (small.setX 2#4 base)
theorem meets_LoadFromPort_and_StoreToPort_netData : let s := based 0 0xF00#32
    InIoWindow (s.x 2#4 + operandA s (.lit 2#5)) ∧
    portOf s.coreId ((s.x 2#4 + operandA s (.lit 2#5)).setWidth 5) = some .netData :=
  ⟨⟨by decide, by decide⟩, by decide⟩
theorem meets_LoadFromPort_and_StoreToPort_ddrCommand : let s := based 6 0xF0B#32
    InIoWindow (s.x 2#4 + operandA s (.reg 4#4)) ∧
    portOf s.coreId ((s.x 2#4 + operandA s (.reg 4#4)).setWidth 5) = some .ddrCommand :=
  ⟨⟨by decide, by decide⟩, by decide⟩
theorem meets_LoadFromPort_and_StoreToPort_switchInput : let s := based 11 0xFE0#32
    InIoWindow (s.x 2#4 + operandA s (.lit 14#5)) ∧
    portOf s.coreId ((s.x 2#4 + operandA s (.lit 14#5)).setWidth 5) = some .switchInput :=
  ⟨⟨by decide, by decide⟩, by decide⟩
theorem meets_AccessesThatAreRefused_first_port : let s := based 0 0xF00#32
    InIoWindow (s.x 2#4 + operandA s (.lit 0#5)) ∧ portOf s.coreId ((s.x 2#4 + operandA s (.lit 0#5)).setWidth 5) = none :=
  ⟨⟨by decide, by decide⟩, by decide⟩
theorem meets_AccessesThatAreRefused_last_port : let s := based 11 0xFE0#32
    InIoWindow (s.x 2#4 + operandA s (.lit 31#5)) ∧ portOf s.coreId ((s.x 2#4 + operandA s (.lit 31#5)).setWidth 5) = none :=
  ⟨⟨by decide, by decide⟩, by decide⟩
theorem meets_AccessesThatAreRefused_absent_device : let s := based 3 0xF00#32
    InIoWindow (s.x 2#4 + operandA s (.lit 4#5)) ∧ portOf s.coreId ((s.x 2#4 + operandA s (.lit 4#5)).setWidth 5) = none :=
  ⟨⟨by decide, by decide⟩, by decide⟩
theorem meets_AccessesThatAreRefused_first_address : small.params.addrDecode = .refuse ∧
    IsUndecoded (small.x 2#4 + operandA small (.reg 3#4)) ∧ small.x 2#4 + operandA small (.reg 3#4) = 0x800#32 :=
  ⟨by decide, ⟨by decide, fun h => absurd h.1 (by decide)⟩, by decide⟩
theorem meets_AccessesThatAreRefused_below_window : let s := based 11 0xEFF#32
    s.params.addrDecode = .refuse ∧ IsUndecoded (s.x 2#4 + operandA s (.lit 0#5)) :=
  ⟨by decide, ⟨by decide, fun h => absurd h.1 (by decide)⟩⟩
theorem meets_AliasedAddresses_io : (withDecode .aliased small).params.addrDecode = .aliased ∧
    IsUndecoded 0x1F02#32 ∧ (0x1F02#32).toNat / 256 % 16 = 15 :=
  ⟨by decide, ⟨by decide, fun h => absurd h.2 (by decide)⟩, by decide⟩
theorem meets_AliasedAddresses_data : (withDecode .aliased small).params.addrDecode = .aliased ∧
    IsUndecoded 0x800#32 ∧ (0x800#32).toNat / 256 % 16 ≠ 15 :=
  ⟨by decide, ⟨by decide, fun h => absurd h.1 (by decide)⟩, by decide⟩
theorem meets_LoadAfterStore_last_word : ∃ t u, (small.x 2#4 + operandA small (.lit 15#5)).toNat = 2047 ∧
    exec (stForm 3#4 2#4 (.lit 15#5)) small = .next t ∧
    t.x 2#4 + operandA t (.lit 15#5) = small.x 2#4 + operandA small (.lit 15#5) ∧
    exec (ldForm 5#4 2#4 (.lit 15#5)) t = .next u := ⟨_, _, by decide, rfl, by decide, rfl⟩
theorem meets_LoadAfterStore_mixed_forms : ∃ t u, (small.x 3#4 + operandA small (.reg 3#4)).toNat < 2048 ∧
    exec (stForm 2#4 3#4 (.reg 3#4)) small = .next t ∧
    t.x 3#4 + operandA t (.lit 16#5) = small.x 3#4 + operandA small (.reg 3#4) ∧
    exec (ldForm 5#4 3#4 (.lit 16#5)) t = .next u := ⟨_, _, by decide, rfl, by decide, rfl⟩
theorem meets_BranchesCompareAfterSub : ∃ t, exec (subForm 1#4 2#4 (.reg 3#4)) small = .next t ∧ t.flags = nzcv 0b0010#4 :=
  ⟨_, rfl, by decide⟩
theorem meets_InterruptPriority :
    interruptNow (asking 11 ⟨true, true, true, true⟩) = some .msgInput ∧
    irqRequest (asking 11 ⟨true, true, true, true⟩) (asking 11 ⟨true, true, true, true⟩).irqAnswer .rs232 = true ∧
    small.gie = false := by decide
theorem meets_InterruptNeedsEnable :
    interruptNow (asking 11 ⟨false, false, true, true⟩) = some .rs232 ∧ (asking 0 ⟨true, false, false, true⟩).gie = true ∧
    irqRequest (asking 0 ⟨true, false, false, true⟩) (asking 0 ⟨true, false, false, true⟩).irqAnswer .msgInput = true ∧
    (asking 0 ⟨true, false, false, true⟩).irqAnswer.enterNow = true ∧
    (asking 0 ⟨true, false, false, false⟩).irqAnswer.enterNow = false := by decide
theorem meets_ReturnUndoesEntry : ∃ t, interruptNow (asking 11 ⟨false, false, true, true⟩) = some .rs232 ∧
    (asking 11 ⟨false, false, true, true⟩).intMd = false ∧ step (asking 11 ⟨false, false, true, true⟩) = .next t ∧
    (t.setPc 7#12).intMd = true ∧ (t.setPc 7#12).rf true 15#4 = t.rf true 15#4 :=
  ⟨_, by decide, by decide, rfl, rfl, rfl⟩
theorem meets_StepKeepsInvariant_and_StepKeepsConstants : ∃ t, MemoriesOk (small.withFetchWord 24 0x3448F) ∧
    BufAddrOk (small.withFetchWord 24 0x3448F) ∧ step (small.withFetchWord 24 0x3448F) = .next t :=
  ⟨_, ⟨by decide, by decide⟩, fun _ => rfl, rfl⟩
theorem meets_ProgramMemoryIsFetchedOnly : ∃ t, exec (.stRR 1#4 3#4 0#4) small = .next t ∧ MemoriesOk small ∧ 4096 ≤ 4096 :=
  ⟨_, rfl, ⟨by decide, by decide⟩, by decide⟩
theorem meets_DataMemoryIsReachedByLoadAndStoreOnly : ∃ t, familyOf (.ldRR 1#4 3#4 0#4) ≠ .st ∧
    exec (.ldRR 1#4 3#4 0#4) small = .next t ∧ familyOf (.addRL 1#4 2#4 3#5) ≠ .ld ∧ familyOf (.addRL 1#4 2#4 3#5) ≠ .st ∧
    MemoriesOk small := ⟨_, by decide, rfl, by decide, by decide, by decide, by decide⟩
theorem meets_FlagsAreReadOnlyBy : familyOf (.mulRR 1#4 2#4 3#4) ≠ .bc ∧ familyOf (.mulRR 1#4 2#4 3#4) ≠ .ldc ∧
    (nzcv 0b1111#4).c = small.flags.c ∧ (nzcv 0b1011#4).z = small.flags.z ∧ (nzcv 0b0111#4).n = small.flags.n ∧
    (nzcv 0b1110#4).v = small.flags.v ∧
    ((nzcv 0b1011#4).c && !(nzcv 0b1011#4).z) = (small.flags.c && !small.flags.z) ∧
    ((nzcv 0b1001#4).n ^^ (nzcv 0b1001#4).v) = (small.flags.n ^^ small.flags.v) ∧
    (((nzcv 0b1001#4).n ^^ (nzcv 0b1001#4).v) || (nzcv 0b1001#4).z) =
      ((small.flags.n ^^ small.flags.v) || small.flags.z) := by decide
theorem meets_NoSynchronousException : ∃ t u, step (asking 11 ⟨true, true, true, true⟩) = .next t ∧
    t.pc ≠ (asking 11 ⟨true, true, true, true⟩).pc + 1#12 ∧ step (small.withFetchWord 24 0x3BA00) = .next u ∧
    u.pc ≠ (small.withFetchWord 24 0x3BA00).pc + 1#12 := ⟨_, _, rfl, by decide, rfl, by decide⟩
theorem meets_InstructionsThatStop :
    exec (.ldRR 1#4 2#4 3#4) small = .refused .undecodedAddress ∧
    exec (.stRL 1#4 2#4 1#5) (small.setX 2#4 0xF00#32) = .refused .noSuchPort ∧
    exec (.brReg 0#4) (small.setMode true false) = .refused .brBank0InInterruptMode ∧
    exec (.brRet 0#4) small = .refused .brReturnOutsideInterruptMode := ⟨rfl, rfl, rfl, rfl⟩
theorem meets_WhoWritesAndReadsH : ∃ t, step ((small.setX 2#4 0x10000000#32).withFetchWord 24 0x184A3) = .next t ∧
    t.h ≠ ((small.setX 2#4 0x10000000#32).withFetchWord 24 0x184A3).h ∧ familyOf (.addRL 1#4 2#4 3#5) ≠ .ldh ∧
    familyOf (.addRL 1#4 2#4 3#5) ≠ .mul ∧ familyOf (.mulRR 1#4 2#4 3#4) = .mul :=
  ⟨_, rfl, by decide, by decide, by decide, by decide⟩
theorem meets_ModeWriters : ∃ t u v, step (asking 0 ⟨true, false, false, true⟩) = .next t ∧ t.intMd ≠ false ∧
    step (small.withFetchWord 24 0x2C001) = .next u ∧ u.gie ≠ small.gie ∧
    step ((small.setMode true false).withFetchWord 24 0x2C03F) = .next v ∧ v.intMd ≠ true :=
  ⟨_, _, _, rfl, by decide, rfl, by decide, rfl, by decide⟩
theorem meets_OnlyDestinationIsWritten_and_FlagWriters : ∃ t u v, exec (.addRL 1#4 2#4 3#5) small = .next t ∧
    exec (.mulRR 1#4 2#4 3#4) small = .next u ∧ exec (.bl 5#14) small = .next v ∧
    familyOf (.bl 5#14) ∉ [Family.add, Family.sub, Family.ror, Family.brRet] ∧
    familyOf (.mulRR 1#4 2#4 3#4) ∈ [Family.mul, Family.st, Family.bc, Family.brReg, Family.brMode] :=
  ⟨_, _, _, rfl, rfl, rfl, by decide, by decide⟩
theorem meets_RegisterInstructionsComplete : familyOf (.rorRR 1#4 2#4 3#4) ∈
    [Family.logic, Family.add, Family.sub, Family.not, Family.ldh, Family.ldc, Family.lit, Family.ror] := by decide
theorem meets_OnlyStoreWritesData : ∃ t u, exec (.stRL 1#4 2#4 15#5) small = .next t ∧ familyOf (.stRL 1#4 2#4 15#5) = .st ∧
    accessAddress small (.stRL 1#4 2#4 15#5) = some 0x7FF#32 ∧ (0x7FF#32).toNat / 256 % 16 ≠ 15 ∧
    exec (.ldRL 1#4 2#4 15#5) small = .next u ∧ familyOf (.ldRL 1#4 2#4 15#5) ≠ .st :=
  ⟨_, _, rfl, by decide, by decide, by decide, rfl, by decide⟩
theorem meets_OnlyStoreWritesData_port : ∃ t, exec (.stRL 1#4 2#4 3#5) (based 0 0xF00#32) = .next t ∧
    accessAddress (based 0 0xF00#32) (.stRL 1#4 2#4 3#5) = some 0xF03#32 ∧ (0xF03#32).toNat / 256 % 16 = 15 :=
  ⟨_, rfl, by decide, by decide⟩
theorem meets_AtMostOneAccess_no_access : ∃ t u, exec (.mulRR 1#4 2#4 3#4) small = .next t ∧
    familyOf (.mulRR 1#4 2#4 3#4) ≠ .ld ∧ familyOf (.mulRR 1#4 2#4 3#4) ≠ .st ∧
    exec (ldForm 1#4 2#4 (.lit 0#5)) small = .next u ∧ (small.x 2#4 + operandA small (.lit 0#5)).toNat / 256 % 16 ≠ 15 :=
  ⟨_, _, rfl, by decide, by decide, rfl, by decide⟩
theorem meets_AtMostOneAccess_port : let s := based 0 0xF00#32
    ∃ t u, exec (ldForm 1#4 2#4 (.lit 3#5)) s = .next t ∧ exec (stForm 1#4 2#4 (.lit 3#5)) s = .next u ∧
    (s.x 2#4 + operandA s (.lit 3#5)).toNat / 256 % 16 = 15 := ⟨_, _, rfl, rfl, by decide⟩
theorem meets_AbsentDevicesAreUntouched : ∃ t, step ((onCore 3 (small.setX 2#4 0xF00#32)).withFetchWord 24 0x34482) = .next t ∧
    ((onCore 3 (small.setX 2#4 0xF00#32)).withFetchWord 24 0x34482).coreId ≠ 6 ∧
    ((onCore 3 (small.setX 2#4 0xF00#32)).withFetchWord 24 0x34482).coreId ≠ 11 := ⟨_, rfl, by decide, by decide⟩

/-- A state whose devices were all seen ready, the buffer address registers at `a` and the DDR2 word index at `i`. -/
def ready (a : BitVec 6) (i : BitVec 3) : State :=
  let s := small.setNetNode { small.dev.netNode with inReady := true, outFree := true, inAddr := a, outAddr := a }
  let s := s.setRs232 { s.dev.rs232 with rxReady := true, txReady := true }
  s.setDdr2 { s.dev.ddr2 with afReady := true, wbReady := true, rbReady := true, index := i }
theorem meets_NetNodeDataRegister : (ready 0#6 0#3).dev.netNode.outFree = true ∧
    (ready 31#6 0#3).dev.netNode.outAddr.toNat < 32 ∧ (ready 31#6 0#3).dev.netNode.inReady = true ∧
    (ready 31#6 0#3).dev.netNode.inAddr.toNat < 32 ∧ (ready 0#6 0#3).dev.netNode.inAddr.toNat < 32 := by decide
theorem meets_NetNodeCommandRegister : (16 : Nat) ∉ [4, 5, 8, 9, 10, 11, 12, 13, 14, 15] ∧ (0 : Nat) ∉ [4, 5, 8, 9, 10, 11, 12, 13, 14, 15] := by decide
theorem meets_RsRegisters : (ready 0#6 0#3).dev.rs232.txReady = true ∧ (ready 0#6 0#3).dev.rs232.rxReady = true ∧
    (2 : Nat) ≠ 3 := by decide
theorem meets_BoardRegisters : Port.lcdData ∈ [Port.timerCommand, Port.lcdData, Port.lcdCommand, Port.ledData] ∧
    Port.switchInput ∈ [Port.timerData, Port.timerCommand, Port.lcdData, Port.lcdCommand, Port.ledData, Port.switchInput] := by
  decide
theorem meets_DdrRegisters : (ready 0#6 7#3).dev.ddr2.afReady = true ∧ (ready 0#6 7#3).dev.ddr2.wbReady = true ∧
    (ready 0#6 0#3).dev.ddr2.rbReady = true ∧ (ready 0#6 7#3).dev.ddr2.index.toNat = 7 ∧ small.dev.ddr2.rbReady = false ∧
    Port.ddrData ∈ [Port.ddrData, Port.ddrCommand] := by decide

end Sys2Proof.Machine.Tests
end

section
/-! PROOFS. The three stores that most instructions never look at: program memory, data memory and `H` (10_state.md R45, R46, R38).
`State.mapHidden` replaces all three at once, so that "answers the same with another one in it" is proved for the three
statements by one pass over the instructions. -/

namespace Sys2Proof.Machine

/-- The state with program memory, data memory and `H` each replaced by a function of itself; `id` keeps one. -/
def State.mapHidden (s : State) (p : List (Nat × Code) → List (Nat × Code)) (q : List (Nat × Word) → List (Nat × Word))
    (r : Word → Word) : State :=
  { s with pmem := p s.pmem, dmem := q s.dmem, h := r s.h }

/-! ## The instructions of a family -/

@[simp] theorem exec_ldForm (d b : RegNo) (o : Operand) (s : State) : exec (ldForm d b o) s = loadOp d b o s := by
  cases o <;> rfl

theorem eq_ldForm {i : Instr} (h : familyOf i = .ld) : ∃ d b o, i = ldForm d b o := by
  cases i with
  | ldRL d b n => exact ⟨d, b, .lit n, rfl⟩
  | ldRR d b a => exact ⟨d, b, .reg a, rfl⟩
  | _ => cases h

theorem eq_ldh {i : Instr} (h : familyOf i = .ldh) : ∃ d, i = .ldh d := by
  cases i with
  | ldh d => exact ⟨d, rfl⟩
  | _ => cases h

/-- What a MUL of either form does (41_arith.md R134). -/
theorem exec_of_mul {i : Instr} (h : familyOf i = .mul) : ∃ d b o, ∀ s, exec i s = .next (mulOp d b o s) := by
  cases i with
  | mulRL d b n => exact ⟨d, b, .lit n, fun _ => rfl⟩
  | mulRR d b a => exact ⟨d, b, .reg a, fun _ => rfl⟩
  | _ => cases h

section
variable (s : State) (p : List (Nat × Code) → List (Nat × Code)) (q : List (Nat × Word) → List (Nat × Word)) (r : Word → Word)

/-! ## What else the state holds reads as before -/

@[simp] theorem State.mapHidden_coreId : (s.mapHidden p q r).coreId = s.coreId := rfl
@[simp] theorem State.mapHidden_params : (s.mapHidden p q r).params = s.params := rfl
@[simp] theorem State.mapHidden_pmem : (s.mapHidden p q r).pmem = p s.pmem := rfl
@[simp] theorem State.mapHidden_dmem : (s.mapHidden p q r).dmem = q s.dmem := rfl
@[simp] theorem State.mapHidden_h : (s.mapHidden p q r).h = r s.h := rfl
@[simp] theorem State.mapHidden_oracle : (s.mapHidden p q r).oracle = s.oracle := rfl
@[simp] theorem State.mapHidden_x (i : RegNo) : (s.mapHidden p q r).x i = s.x i := rfl
@[simp] theorem effectiveAddress_mapHidden (b : RegNo) (o : Operand) :
    effectiveAddress (s.mapHidden p q r) b o = effectiveAddress s b o := rfl
@[simp] theorem ioReadValue_mapHidden (port : Port) : ioReadValue port (s.mapHidden p q r) = ioReadValue port s := rfl

/-! ## Updates elsewhere commute with it -/

@[simp] theorem State.mapHidden_setRf (k : Bool) (i : RegNo) (v : Word) :
    (s.mapHidden p q r).setRf k i v = (s.setRf k i v).mapHidden p q r := by cases k <;> rfl
@[simp] theorem State.mapHidden_setX (i : RegNo) (v : Word) :
    (s.mapHidden p q r).setX i v = (s.setX i v).mapHidden p q r := State.mapHidden_setRf s p q r s.intMd i v
theorem State.mapHidden_ioAnswered : (s.mapHidden p q r).ioAnswered = s.ioAnswered.mapHidden p q r := by
  unfold State.ioAnswered
  rw [State.mapHidden_oracle]
  split <;> rfl

theorem writeResult_mapHidden (d : RegNo) (v : Word) :
    writeResult d v (s.mapHidden p q r) = (writeResult d v s).mapHidden p q r := by
  rw [writeResult, State.mapHidden_setX]
  rfl
theorem writeResultFlags_mapHidden (d : RegNo) (v : Word) (f : Flags) :
    writeResultFlags d v f (s.mapHidden p q r) = (writeResultFlags d v f s).mapHidden p q r := by
  rw [writeResultFlags, State.mapHidden_setX]
  rfl
theorem branchIf_mapHidden (taken : Bool) (off : BitVec 10) :
    branchIf taken off (s.mapHidden p q r) = (branchIf taken off s).mapHidden p q r := by cases taken <;> rfl
/-- A call: the link to `x[15]`, a new `pc`, N and Z free. -/
theorem link_mapHidden (v : Word) (t : PAddr) :
    (((s.mapHidden p q r).setX 15#4 v).setPc t).freeNZ = ((s.setX 15#4 v).setPc t).freeNZ.mapHidden p q r := by
  rw [State.mapHidden_setX]
  rfl
/-- MUL leaves program and data memory alone, whatever they hold. -/
theorem mulOp_mapHidden (d b : RegNo) (o : Operand) :
    mulOp d b o (s.mapHidden p q id) = (mulOp d b o s).mapHidden p q id := by
  rw [mulOp, State.mapHidden_setX]
  rfl

/-! ## The data side -/

theorem portReadEffect_mapHidden (port : Port) (w : Word) :
    portReadEffect port w (s.mapHidden p q r) = (portReadEffect port w s).mapHidden p q r := by
  cases port with
  | netData | rsData | ddrData =>
    simp only [portReadEffect, apply_ite (fun t : State => t.mapHidden p q r)]
    rfl
  | netCommand | rsCommand | timerData | timerCommand | lcdData | lcdCommand | ddrCommand | ledData | switchInput => rfl

theorem portWriteEffect_mapHidden (port : Port) (v : Word) :
    portWriteEffect port v (s.mapHidden p q r) = (portWriteEffect port v s).mapHidden p q r := by
  cases port with
  | netData | rsData | ddrData | ddrCommand =>
    simp only [portWriteEffect, apply_ite (fun t : State => t.mapHidden p q r)]
    rfl
  | netCommand | rsCommand | timerData | timerCommand | lcdData | lcdCommand | ledData | switchInput => rfl

theorem ioReadState_mapHidden (n : PortNo) (port : Port) :
    ioReadState n port (s.mapHidden p q r) = (ioReadState n port s).mapHidden p q r := by
  rw [ioReadState, State.mapHidden_ioAnswered, portReadEffect_mapHidden]
  rfl
theorem ioWriteState_mapHidden (n : PortNo) (port : Port) (v : Word) :
    ioWriteState n port v (s.mapHidden p q r) = (ioWriteState n port v s).mapHidden p q r := by
  rw [ioWriteState, portWriteEffect_mapHidden]
  rfl

/-- `MemRead` looks at data memory, and not at the other two. -/
theorem memRead_mapHidden (ea : Word) :
    memRead ea (s.mapHidden p id r) = (memRead ea s).map fun a => (a.1, a.2.mapHidden p id r) := by
  simp only [memRead, State.mapHidden_params, State.mapHidden_coreId]
  cases classify s.params.addrDecode ea with
  | dmem a => rfl
  | undecoded => rfl
  | io n =>
    dsimp only
    cases portOf s.coreId n with
    | none => rfl
    | some port => simp only [ioReadValue_mapHidden, ioReadState_mapHidden, Except.map]

/-- `MemWrite` looks at data memory, and not at the other two. -/
theorem memWrite_mapHidden (ea v : Word) :
    memWrite ea v (s.mapHidden p id r) = (memWrite ea v s).map fun t => t.mapHidden p id r := by
  simp only [memWrite, State.mapHidden_params, State.mapHidden_coreId]
  cases classify s.params.addrDecode ea with
  | dmem a => rfl
  | undecoded => rfl
  | io n =>
    dsimp only
    cases portOf s.coreId n with
    | none => rfl
    | some port => simp only [ioWriteState_mapHidden, Except.map]

theorem loadOp_mapHidden (d b : RegNo) (o : Operand) :
    loadOp d b o (s.mapHidden p id r) = onNext (fun t => t.mapHidden p id r) (loadOp d b o s) := by
  rw [loadOp, loadOp, effectiveAddress_mapHidden, memRead_mapHidden]
  cases memRead (effectiveAddress s b o) s with
  | error e => rfl
  | ok a =>
    obtain ⟨v, u⟩ := a
    simp only [Except.map, State.mapHidden_setX]
    rfl

theorem storeOp_mapHidden (d b : RegNo) (o : Operand) :
    storeOp d b o (s.mapHidden p id r) = onNext (fun t => t.mapHidden p id r) (storeOp d b o s) := by
  rw [storeOp, storeOp, effectiveAddress_mapHidden, State.mapHidden_x, memWrite_mapHidden]
  cases memWrite (effectiveAddress s b o) (s.x d) s with
  | error e => rfl
  | ok u => rfl

/-! ## Every instruction -/

/-- With other stores an instruction answers the same, those stores apart, if it is none of the readers or writers of one that is
replaced: LD and ST of data memory, MUL and LDH of `H`. -/
theorem exec_mapHidden (i : Instr) (hq : familyOf i = .ld ∨ familyOf i = .st → q = id)
    (hr : familyOf i = .mul ∨ familyOf i = .ldh → r = id) :
    exec i (s.mapHidden p q r) = onNext (fun t => t.mapHidden p q r) (exec i s) := by
  cases i with
  | andRL | andRR | bicRL | bicRR | orRL | orRR | xorRL | xorRR | notRL | notRR | ldc | lit =>
    exact congrArg Host.Outcome.next (writeResult_mapHidden ..)
  | addRL | addRR | subRL | subRR | rorRL | rorRR =>
    exact congrArg Host.Outcome.next (writeResultFlags_mapHidden ..)
  | mulRL | mulRR =>
    obtain rfl := hr (.inl rfl)
    exact congrArg Host.Outcome.next (mulOp_mapHidden ..)
  | ldh =>
    obtain rfl := hr (.inr rfl)
    exact congrArg Host.Outcome.next (writeResult_mapHidden ..)
  | blr | bl => exact congrArg Host.Outcome.next (link_mapHidden ..)
  | brReg | brRet =>
    simp only [exec, execBrReg, execBrRet, apply_ite (onNext fun t => t.mapHidden p q r)]
    rfl
  | brMode => rfl
  | ldRL | ldRR =>
    obtain rfl := hq (.inl rfl)
    exact loadOp_mapHidden ..
  | stRL | stRR =>
    obtain rfl := hq (.inr rfl)
    exact storeOp_mapHidden ..
  | beq | bneq | bcs | bcc | bn | bnn | bv | bnv | bhi | bls | bgeq | blss | bgtr | bleq | bt | bf =>
    exact congrArg Host.Outcome.next (branchIf_mapHidden ..)

end

/-- The frame that follows from noninterference: an instruction that answers the same with stores replaced leaves them, where
they are replaced by what they hold already. -/
theorem eq_mapHidden_of_exec {i : Instr} {s t : State} {p : List (Nat × Code) → List (Nat × Code)}
    {q : List (Nat × Word) → List (Nat × Word)} {r : Word → Word}
    (hsame : exec i (s.mapHidden p q r) = onNext (fun t => t.mapHidden p q r) (exec i s))
    (hs : s.mapHidden p q r = s) (h : exec i s = .next t) : t = t.mapHidden p q r := by
  rw [hs, h] at hsame
  exact Host.Outcome.next.inj hsame

/-! ## The frames of the three stores -/

/-- No instruction writes program memory (10_state.md R45). -/
theorem exec_pmem {i : Instr} {s t : State} (h : exec i s = .next t) : t.pmem = s.pmem := by
  have hsame := exec_mapHidden s (fun _ => s.pmem) id id i (fun _ => rfl) (fun _ => rfl)
  rw [eq_mapHidden_of_exec hsame rfl h, State.mapHidden_pmem]

theorem loadOp_dmem {d b : RegNo} {o : Operand} {s t : State} (h : loadOp d b o s = .next t) : t.dmem = s.dmem := by
  obtain ⟨v, u, hread, rfl⟩ := loadOp_cases h
  have hu : u.dmem = s.dmem := by
    obtain ⟨_, _, _, rfl⟩ | ⟨n, port, _, _, _, rfl⟩ := memRead_cases hread
    · rfl
    · exact ioReadState_dmem n port s
  simpa using hu

/-- No instruction but ST writes data memory (10_state.md R46). -/
theorem exec_dmem {i : Instr} {s t : State} (hst : familyOf i ≠ .st) (h : exec i s = .next t) : t.dmem = s.dmem := by
  by_cases hld : familyOf i = .ld
  · obtain ⟨d, b, o, rfl⟩ := eq_ldForm hld
    exact loadOp_dmem (exec_ldForm d b o s ▸ h)
  · have hsame := exec_mapHidden s id (fun _ => s.dmem) id i (fun hi => (hi.elim hld hst).elim) (fun _ => rfl)
    rw [eq_mapHidden_of_exec hsame rfl h, State.mapHidden_dmem]

/-- No instruction but MUL writes `H` (10_state.md R38). -/
theorem exec_h {i : Instr} {s t : State} (hmul : familyOf i ≠ .mul) (h : exec i s = .next t) : t.h = s.h := by
  by_cases hldh : familyOf i = .ldh
  · obtain ⟨d, rfl⟩ := eq_ldh hldh
    cases h
    exact writeResult_h d s.h s
  · have hsame := exec_mapHidden s id id (fun _ => s.h) i (fun _ => rfl) (fun hi => (hi.elim hmul hldh).elim)
    rw [eq_mapHidden_of_exec hsame rfl h, State.mapHidden_h]

/-! ## Bounds and addresses of the memories -/

/-- Past its size a memory in canonical form lists nothing. -/
theorem readCell_eq_none_of_cellsWithin {α : Type} {lo hi a : Nat} {m : List (Nat × α)} (h : cellsWithin lo hi m = true)
    (ha : hi ≤ a) : readCell m a = none := by
  induction m generalizing lo with
  | nil => rfl
  | cons c rest ih =>
    obtain ⟨k, w⟩ := c
    simp only [cellsWithin, Bool.and_eq_true, decide_eq_true_eq] at h
    obtain ⟨⟨_, hk⟩, hrest⟩ := h
    have hne : a ≠ k := by omega
    rw [readCell, if_neg hne, ih hrest]

/-- A data address written as its own word is data memory, whatever `ADDR_DECODE` says (20_memory.md R62). -/
theorem classify_setWidth (m : AddrDecode) (a : BitVec 11) : classify m (a.setWidth 32) = .dmem a := by
  have hnat : (a.setWidth 32 : Word).toNat = a.toNat := by
    rw [BitVec.toNat_setWidth]
    omega
  have hback : (a.setWidth 32 : Word).extractLsb' 0 11 = a := by
    apply BitVec.eq_of_toNat_eq
    rw [BitVec.extractLsb'_toNat, hnat, Nat.shiftRight_zero]
    omega
  rw [classify_dmem m (by omega), hback]

theorem effectiveAddress_zero (s : State) (b : RegNo) : effectiveAddress s b (.lit 0#5) = s.x b := by
  simp [effectiveAddress, operandA]

/-- LD at a word of data memory delivers that word (20_memory.md R64). -/
theorem loadOp_of_dmem {d b : RegNo} {o : Operand} {s : State} {a : BitVec 11}
    (h : effectiveAddress s b o = a.setWidth 32) :
    loadOp d b o s = .next (s.setX d (dmemRead s.dmem a)).freeNZ.advance := by
  simp only [loadOp, memRead, h, classify_setWidth]

/-- ST at a word of data memory writes that word (20_memory.md R65). -/
theorem storeOp_of_dmem {d b : RegNo} {o : Operand} {s : State} {a : BitVec 11}
    (h : effectiveAddress s b o = a.setWidth 32) : storeOp d b o s = .next (s.storeWord a (s.x d)).advance := by
  simp only [storeOp, memWrite, h, classify_setWidth]

/-! ## The statements O41, O42 and O46 -/

/-- Settles O41: `exec_mapHidden` replaces program memory for every instruction, and the rest is its frame and its size. -/
theorem programMemoryIsFetchedOnly : Obligations.ProgramMemoryIsFetchedOnly := by
  refine ⟨fun i s m => ?_, fun i s t h => exec_pmem h, fun s => rfl, fun s hs a ha => ?_⟩
  · exact exec_mapHidden s (fun _ => m) id id i (fun _ => rfl) (fun _ => rfl)
  · obtain ⟨hp, _⟩ := hs
    exact readCell_eq_none_of_cellsWithin hp ha

/-- Settles O42: `exec_mapHidden` replaces data memory for all but LD and ST, and these reach the word of each address. -/
theorem dataMemoryIsReachedByLoadAndStoreOnly : Obligations.DataMemoryIsReachedByLoadAndStoreOnly := by
  refine ⟨fun i s m hld hst => ?_, fun i s t hst h => exec_dmem hst h, fun s hs a ha => ?_, dmemRead_dmemWrite,
    fun s d b a ha => ⟨?_, ?_⟩⟩
  · exact exec_mapHidden s id (fun _ => m) id i (fun hi => (hi.elim hld hst).elim) (fun _ => rfl)
  · obtain ⟨_, hd⟩ := hs
    exact readCell_eq_none_of_cellsWithin hd ha
  · refine ⟨_, loadOp_of_dmem ((effectiveAddress_zero s b).trans ha), ?_⟩
    simp [State.x]
  · exact ⟨_, storeOp_of_dmem ((effectiveAddress_zero s b).trans ha), rfl⟩

/-- MUL forgets the `H` it finds (41_arith.md R134). -/
theorem mulOp_setH (d b : RegNo) (o : Operand) (s : State) (v : Word) : mulOp d b o (s.setH v) = mulOp d b o s := by
  have hset (w : Word) : (s.setH v).setX d w = (s.setX d w).setH v := State.mapHidden_setX s id id (fun _ => v) d w
  rw [mulOp, hset]
  rfl

/-- Settles O46: a step that changes `H` is no interrupt entry and by `exec_h` no other instruction than MUL; `exec_mapHidden`
replaces `H` for all but MUL and LDH. -/
theorem whoWritesAndReadsH : Obligations.WhoWritesAndReadsH := by
  refine ⟨fun s t hstep hne => ?_, fun i s v hldh hmul => ?_, fun i s v hi => ?_, fun k s v => rfl, fun s d => ?_⟩
  · obtain ⟨k, _, rfl⟩ | ⟨i, hruns, hexec⟩ := step_cases hstep
    · exact absurd (by simp) hne
    · refine ⟨i, hruns, ?_⟩
      by_contra hmul
      exact hne ((exec_h hmul hexec).trans (atBoundary_h s))
  · exact exec_mapHidden s id id (fun _ => v) i (fun _ => rfl) (fun hi => (hi.elim hmul hldh).elim)
  · obtain ⟨d, b, o, hexec⟩ := exec_of_mul hi
    rw [hexec, hexec, mulOp_setH]
  · refine ⟨writeResult d s.h s, rfl, ?_⟩
    simp [State.x, writeResult_rf]

end Sys2Proof.Machine
end

section
/-! PROOFS. What an instruction reads of its word: the don't-care bits (30_encoding.md R102). -/

namespace Sys2Proof

/-! ## The bits of a word that a mask keeps, format by format -/

/-- A mask with IR[5] set, applied to a word of the literal form (R92). -/
theorem and_formRR_of_literal {w : Code} (hs : sBit w = false) (op d b : BitVec 4) (t : BitVec 1) (a : BitVec 4) :
    w &&& formRR op d b t a = formRL (opField w &&& op) (dField w &&& d) (bField w &&& b) (lit5 w &&& (t ++ a)) := by
  have hbit : w[5] = false := hs
  apply BitVec.eq_of_getLsbD_eq
  intro i hi
  simp only [formRL, formRR, opField, dField, bField, lit5]
  rw [BitVec.getLsbD_and, BitVec.getLsbD_append (n := 14) (m := 4), BitVec.getLsbD_append (n := 13) (m := 5)]
  simp only [BitVec.getLsbD_and, BitVec.getLsbD_append]
  interval_cases i <;> simp [hbit]

/-- A mask with IR[5] set, applied to a word of the register form (R92). -/
theorem and_formRR_of_register {w : Code} (hs : sBit w = true) (op d b : BitVec 4) (t : BitVec 1) (a : BitVec 4) :
    w &&& formRR op d b t a =
      formRR (opField w &&& op) (dField w &&& d) (bField w &&& b) (BitVec.ofBool (tBit w) &&& t) (aField w &&& a) := by
  have hbit : w[5] = true := hs
  apply BitVec.eq_of_getLsbD_eq
  intro i hi
  simp only [formRR, opField, dField, bField, tBit, aField]
  rw [BitVec.getLsbD_and, BitVec.getLsbD_append (n := 14) (m := 4), BitVec.getLsbD_append (n := 14) (m := 4)]
  simp only [BitVec.getLsbD_append]
  interval_cases i <;> simp [hbit]

/-- The fields of the format of LIT and Bc are the whole word (R93). -/
theorem formL_fields (w : Code) : formL (opField w) (dField w) (lit10 w) = w := by
  apply BitVec.eq_of_getLsbD_eq
  intro i hi
  simp only [formL, opField, dField, lit10]
  rw [BitVec.getLsbD_append (n := 8) (m := 10)]
  simp only [BitVec.getLsbD_append]
  interval_cases i <;> simp

/-- The fields of the format of BL are the whole word (R94). -/
theorem formB_fields (w : Code) : formB (opField w) (lit14 w) = w := by
  apply BitVec.eq_of_getLsbD_eq
  intro i hi
  simp only [formB, opField, lit14]
  rw [BitVec.getLsbD_append (n := 4) (m := 14)]
  interval_cases i <;> simp

/-- A masked word is the canonical word of a literal form exactly if it has IR[5] = 0 and the kept part of each field agrees. -/
theorem and_formRR_eq_formRL_iff (w : Code) (mop md mb : BitVec 4) (mt : BitVec 1) (ma op d b : BitVec 4) (n : BitVec 5) :
    w &&& formRR mop md mb mt ma = formRL op d b n ↔
      sBit w = false ∧ opField w &&& mop = op ∧ dField w &&& md = d ∧ bField w &&& mb = b ∧ lit5 w &&& (mt ++ ma) = n := by
  constructor
  · intro h
    have hs : sBit w = false := by
      by_contra hs
      rw [and_formRR_of_register (Bool.eq_true_of_not_eq_false hs)] at h
      simpa [sBit_formRR, sBit_formRL] using congrArg sBit h
    rw [and_formRR_of_literal hs] at h
    refine ⟨hs, ?_, ?_, ?_, ?_⟩
    · simpa only [opField_formRL] using congrArg opField h
    · simpa only [dField_formRL] using congrArg dField h
    · simpa only [bField_formRL] using congrArg bField h
    · simpa only [lit5_formRL] using congrArg lit5 h
  · rintro ⟨hs, rfl, rfl, rfl, rfl⟩
    exact and_formRR_of_literal hs mop md mb mt ma

/-- A masked word is the canonical word of a register form exactly if it has IR[5] = 1 and the kept part of each field agrees. -/
theorem and_formRR_eq_formRR_iff (w : Code) (mop md mb : BitVec 4) (mt : BitVec 1) (ma op d b : BitVec 4) (t : BitVec 1)
    (a : BitVec 4) :
    w &&& formRR mop md mb mt ma = formRR op d b t a ↔
      sBit w = true ∧ opField w &&& mop = op ∧ dField w &&& md = d ∧ bField w &&& mb = b ∧
        BitVec.ofBool (tBit w) &&& mt = t ∧ aField w &&& ma = a := by
  constructor
  · intro h
    have hs : sBit w = true := by
      by_contra hs
      rw [and_formRR_of_literal (Bool.eq_false_of_not_eq_true hs)] at h
      simpa [sBit_formRR, sBit_formRL] using congrArg sBit h
    rw [and_formRR_of_register hs] at h
    refine ⟨hs, ?_, ?_, ?_, ?_, ?_⟩
    · simpa only [opField_formRR] using congrArg opField h
    · simpa only [dField_formRR] using congrArg dField h
    · simpa only [bField_formRR] using congrArg bField h
    · have ht := congrArg tBit h
      simp only [tBit_formRR] at ht
      exact BitVec.eq_of_getLsbD_eq_iff.2 fun i hi => by simpa [Nat.lt_one_iff.1 hi] using ht
    · simpa only [aField_formRR] using congrArg aField h
  · rintro ⟨hs, rfl, rfl, rfl, rfl, rfl⟩
    exact and_formRR_of_register hs mop md mb mt ma

/-! ## The significant bits of R102 as masks on the fields -/

theorem and_significant_all (w : Code) : w &&& 0b111111111111111111#18 = w := BitVec.and_allOnes (w := 18)

/-- All bits of a literal form are significant. -/
theorem literal_canonical_iff {w : Code} {op d b : BitVec 4} {n : BitVec 5} :
    w &&& 0b111111111111111111#18 = formRL op d b n ↔
      sBit w = false ∧ opField w = op ∧ dField w = d ∧ bField w = b ∧ lit5 w = n := by
  have hmask : 0b111111111111111111#18 = formRR (.allOnes 4) (.allOnes 4) (.allOnes 4) (.allOnes 1) (.allOnes 4) := by decide
  have hlit : (BitVec.allOnes 1 ++ BitVec.allOnes 4 : BitVec 5) = .allOnes 5 := by decide
  simp only [hmask, and_formRR_eq_formRL_iff, hlit, BitVec.and_allOnes]

/-- In a register form IR[4] is don't-care. -/
theorem register_canonical_iff {w : Code} {op d b a : BitVec 4} :
    w &&& 0b111111111111101111#18 = formRR op d b 0#1 a ↔
      sBit w = true ∧ opField w = op ∧ dField w = d ∧ bField w = b ∧ aField w = a := by
  have hmask : 0b111111111111101111#18 = formRR (.allOnes 4) (.allOnes 4) (.allOnes 4) 0#1 (.allOnes 4) := by decide
  simp only [hmask, and_formRR_eq_formRR_iff, BitVec.and_allOnes, BitVec.and_zero, true_and]

/-- In the literal form of NOT the field b is don't-care. -/
theorem not_literal_canonical_iff {w : Code} {op d : BitVec 4} {n : BitVec 5} :
    w &&& 0b111111110000111111#18 = formRL op d 0#4 n ↔ sBit w = false ∧ opField w = op ∧ dField w = d ∧ lit5 w = n := by
  have hmask : 0b111111110000111111#18 = formRR (.allOnes 4) (.allOnes 4) 0#4 (.allOnes 1) (.allOnes 4) := by decide
  have hlit : (BitVec.allOnes 1 ++ BitVec.allOnes 4 : BitVec 5) = .allOnes 5 := by decide
  simp only [hmask, and_formRR_eq_formRL_iff, hlit, BitVec.and_allOnes, BitVec.and_zero, true_and]

/-- In the register forms of opcode 0111 the field b is don't-care. -/
theorem not_register_canonical_iff {w : Code} {op d a : BitVec 4} {t : BitVec 1} :
    w &&& 0b111111110000111111#18 = formRR op d 0#4 t a ↔
      sBit w = true ∧ opField w = op ∧ dField w = d ∧ BitVec.ofBool (tBit w) = t ∧ aField w = a := by
  have hmask : 0b111111110000111111#18 = formRR (.allOnes 4) (.allOnes 4) 0#4 (.allOnes 1) (.allOnes 4) := by decide
  simp only [hmask, and_formRR_eq_formRR_iff, BitVec.and_allOnes, BitVec.and_zero, true_and]

/-- In BLR the fields d and b and IR[4] are don't-care. -/
theorem blr_canonical_iff {w : Code} {op a : BitVec 4} :
    w &&& 0b111100000000101111#18 = formRR op 0#4 0#4 0#1 a ↔ sBit w = true ∧ opField w = op ∧ aField w = a := by
  have hmask : 0b111100000000101111#18 = formRR (.allOnes 4) 0#4 0#4 0#1 (.allOnes 4) := by decide
  simp only [hmask, and_formRR_eq_formRR_iff, BitVec.and_allOnes, BitVec.and_zero, true_and]

/-- In the register forms of BR the fields d and b are don't-care. -/
theorem br_canonical_iff {w : Code} {op a : BitVec 4} {t : BitVec 1} :
    w &&& 0b111100000000111111#18 = formRR op 0#4 0#4 t a ↔
      sBit w = true ∧ opField w = op ∧ BitVec.ofBool (tBit w) = t ∧ aField w = a := by
  have hmask : 0b111100000000111111#18 = formRR (.allOnes 4) 0#4 0#4 (.allOnes 1) (.allOnes 4) := by decide
  simp only [hmask, and_formRR_eq_formRR_iff, BitVec.and_allOnes, BitVec.and_zero, true_and]

/-- The two low bits of the 5-bit literal are the operand of the mode-setting form (R162). -/
theorem lit5_and_three (w : Code) : lit5 w &&& (0#1 ++ 3#4) = 0#3 ++ kField w := by
  apply BitVec.eq_of_getLsbD_eq
  intro i hi
  simp only [lit5, kField, BitVec.getLsbD_append]
  interval_cases i <;> simp

/-- In the mode-setting form of BR the fields d and b and IR[4:2] are don't-care. -/
theorem brMode_canonical_iff {w : Code} {op : BitVec 4} {k : BitVec 2} :
    w &&& 0b111100000000100011#18 = formRL op 0#4 0#4 (0#3 ++ k) ↔ sBit w = false ∧ opField w = op ∧ kField w = k := by
  have hmask : 0b111100000000100011#18 = formRR (.allOnes 4) 0#4 0#4 0#1 3#4 := by decide
  simp only [hmask, and_formRR_eq_formRL_iff, lit5_and_three, BitVec.and_allOnes, BitVec.and_zero, true_and]
  exact and_congr_right fun _ => and_congr_right fun _ => BitVec.append_right_inj 0#3

/-- All bits of LIT and Bc are significant. -/
theorem formL_canonical_iff {w : Code} {op d : BitVec 4} {n : BitVec 10} :
    w &&& 0b111111111111111111#18 = formL op d n ↔ opField w = op ∧ dField w = d ∧ lit10 w = n := by
  rw [and_significant_all]
  constructor
  · rintro rfl
    exact ⟨opField_formL _ _ _, dField_formL _ _ _, lit10_formL _ _ _⟩
  · rintro ⟨rfl, rfl, rfl⟩
    exact (formL_fields w).symm

/-- All bits of BL are significant to the decoder. -/
theorem formB_canonical_iff {w : Code} {op : BitVec 4} {n : BitVec 14} :
    w &&& 0b111111111111111111#18 = formB op n ↔ opField w = op ∧ lit14 w = n := by
  rw [and_significant_all]
  constructor
  · rintro rfl
    exact ⟨opField_formB _ _, lit14_formB _ _⟩
  · rintro ⟨rfl, rfl⟩
    exact (formB_fields w).symm

theorem ofBool_eq_one {b : Bool} : BitVec.ofBool b = 1#1 ↔ b = true :=
  BitVec.ofBool_eq_iff_eq (b' := true)

theorem ofBool_eq_zero {b : Bool} : BitVec.ofBool b = 0#1 ↔ b = false :=
  BitVec.ofBool_eq_iff_eq (b' := false)

/-! ## From the canonical word to the instruction -/

/-- A word whose significant bits are those of the canonical word decodes to the instruction (R101, R102). -/
theorem decode_of_canonical {w : Code} {i : Instr} (h : w &&& significant i = encode i) : decode w = .ok i := by
  cases i with
  | andRL | bicRL | orRL | xorRL | addRL | subRL | mulRL | rorRL | ldRL | stRL =>
    obtain ⟨hs, hop, rfl, rfl, rfl⟩ := literal_canonical_iff.1 h
    simp [decode, decodeForms, hop, hs]
  | andRR | bicRR | orRR | xorRR | addRR | subRR | mulRR | rorRR | ldRR | stRR =>
    obtain ⟨hs, hop, rfl, rfl, rfl⟩ := register_canonical_iff.1 h
    simp [decode, decodeForms, hop, hs]
  | notRL =>
    obtain ⟨hs, hop, rfl, rfl⟩ := not_literal_canonical_iff.1 h
    simp [decode, decode0111, hop, hs]
  | notRR =>
    obtain ⟨hs, hop, rfl, ht, rfl⟩ := not_register_canonical_iff.1 h
    simp [decode, decode0111, hop, hs, ofBool_eq_zero.1 ht]
  | ldh | ldc =>
    obtain ⟨hs, hop, rfl, ht, ha⟩ := not_register_canonical_iff.1 h
    simp [decode, decode0111, hop, hs, ofBool_eq_one.1 ht, ha]
  | lit =>
    obtain ⟨hop, rfl, rfl⟩ := formL_canonical_iff.1 h
    simp [decode, hop]
  | blr =>
    obtain ⟨hs, hop, rfl⟩ := blr_canonical_iff.1 h
    simp [decode, decode1010, hop, hs]
  | brReg =>
    obtain ⟨hs, hop, ht, rfl⟩ := br_canonical_iff.1 h
    simp [decode, decode1011, hop, hs, ofBool_eq_zero.1 ht]
  | brRet =>
    obtain ⟨hs, hop, ht, rfl⟩ := br_canonical_iff.1 h
    simp [decode, decode1011, hop, hs, ofBool_eq_one.1 ht]
  | brMode =>
    obtain ⟨hs, hop, rfl⟩ := brMode_canonical_iff.1 h
    simp [decode, decode1011, hop, hs]
  | beq | bneq | bcs | bcc | bn | bnn | bv | bnv | bhi | bls | bgeq | blss | bgtr | bleq | bt | bf =>
    obtain ⟨hop, hd, rfl⟩ := formL_canonical_iff.1 h
    simp [decode, decodeBc, hop, hd]
  | bl =>
    obtain ⟨hop, rfl⟩ := formB_canonical_iff.1 h
    simp [decode, hop]

/-! ## From the instruction to the canonical word -/

/-- `rl` and `rr` are the literal and the register form of opcode `op` (R100). -/
structure IsFormPair (op : BitVec 4) (rl : RegNo → RegNo → BitVec 5 → Instr) (rr : RegNo → RegNo → RegNo → Instr) : Prop where
  literal : ∀ d b n, encode (rl d b n) = formRL op d b n ∧ significant (rl d b n) = 0b111111111111111111#18
  register : ∀ d b a, encode (rr d b a) = formRR op d b 0#1 a ∧ significant (rr d b a) = 0b111111111111101111#18

theorem canonical_decodeForms {w : Code} {op : BitVec 4} {rl : RegNo → RegNo → BitVec 5 → Instr}
    {rr : RegNo → RegNo → RegNo → Instr} (hpair : IsFormPair op rl rr) (hop : opField w = op) :
    w &&& significant (decodeForms w rl rr) = encode (decodeForms w rl rr) := by
  unfold decodeForms
  split
  next hs =>
    obtain ⟨henc, hsig⟩ := hpair.register (dField w) (bField w) (aField w)
    rw [henc, hsig]
    exact register_canonical_iff.2 ⟨hs, hop, rfl, rfl, rfl⟩
  next hs =>
    obtain ⟨henc, hsig⟩ := hpair.literal (dField w) (bField w) (lit5 w)
    rw [henc, hsig]
    exact literal_canonical_iff.2 ⟨Bool.eq_false_of_not_eq_true hs, hop, rfl, rfl, rfl⟩

theorem canonical_decode0111 {w : Code} {i : Instr} (hop : opField w = 0b0111#4) (h : decode0111 w = .ok i) :
    w &&& significant i = encode i := by
  unfold decode0111 at h
  split at h
  next hs =>
    split at h
    next ht =>
      split at h <;> cases h
      case h_1 ha | h_2 ha => exact not_register_canonical_iff.2 ⟨hs, hop, rfl, ofBool_eq_one.2 ht, BitVec.eq_of_toNat_eq ha⟩
    next ht =>
      cases h
      exact not_register_canonical_iff.2 ⟨hs, hop, rfl, ofBool_eq_zero.2 (Bool.eq_false_of_not_eq_true ht), rfl⟩
  next hs =>
    cases h
    exact not_literal_canonical_iff.2 ⟨Bool.eq_false_of_not_eq_true hs, hop, rfl, rfl⟩

theorem canonical_decode1010 {w : Code} {i : Instr} (hop : opField w = 0b1010#4) (h : decode1010 w = .ok i) :
    w &&& significant i = encode i := by
  unfold decode1010 at h
  split at h
  next hs => cases h; exact blr_canonical_iff.2 ⟨hs, hop, rfl⟩
  next => cases h

theorem canonical_decode1011 {w : Code} (hop : opField w = 0b1011#4) :
    w &&& significant (decode1011 w) = encode (decode1011 w) := by
  unfold decode1011
  split
  next hs =>
    split
    next ht => exact br_canonical_iff.2 ⟨hs, hop, ofBool_eq_one.2 ht, rfl⟩
    next ht => exact br_canonical_iff.2 ⟨hs, hop, ofBool_eq_zero.2 (Bool.eq_false_of_not_eq_true ht), rfl⟩
  next hs => exact brMode_canonical_iff.2 ⟨Bool.eq_false_of_not_eq_true hs, hop, rfl⟩

theorem significant_decodeBc (c : BitVec 4) (off : BitVec 10) : significant (decodeBc c off) = 0b111111111111111111#18 := by
  unfold decodeBc
  split <;> rfl

theorem formL_eq_of_toNat_eq {op c k : BitVec 4} {n : BitVec 10} (h : c.toNat = k.toNat) : formL op k n = formL op c n := by
  rw [BitVec.eq_of_toNat_eq h]

/-- The code of a condition is written back as it was read (46_relative_branch.md R181). -/
theorem encode_decodeBc (c : BitVec 4) (off : BitVec 10) : encode (decodeBc c off) = formL 0b1110#4 c off := by
  have hlt := c.isLt
  unfold decodeBc
  interval_cases hc : c.toNat <;> exact formL_eq_of_toNat_eq hc

/-- What the decoder does with a word, by its opcode (R100, R101). -/
theorem decode_cases (w : Code) :
    (∃ op rl rr, decode w = .ok (decodeForms w rl rr) ∧ IsFormPair op rl rr ∧ opField w = op) ∨
    (opField w = 0b0111#4 ∧ decode w = decode0111 w) ∨
    (opField w = 0b1000#4 ∧ decode w = .ok (.lit (dField w) (lit10 w))) ∨
    (opField w = 0b1010#4 ∧ decode w = decode1010 w) ∨
    (opField w = 0b1011#4 ∧ decode w = .ok (decode1011 w)) ∨
    (opField w = 0b1110#4 ∧ decode w = .ok (decodeBc (dField w) (lit10 w))) ∨
    (opField w = 0b1111#4 ∧ decode w = .ok (.bl (lit14 w))) := by
  generalize hdec : decode w = r
  unfold decode at hdec
  split at hdec <;> subst hdec -- the arm of opcode n is case n + 1
  case h_8 hop => exact .inr (.inl ⟨BitVec.eq_of_toNat_eq hop, rfl⟩)
  case h_9 hop => exact .inr (.inr (.inl ⟨BitVec.eq_of_toNat_eq hop, rfl⟩))
  case h_11 hop => exact .inr (.inr (.inr (.inl ⟨BitVec.eq_of_toNat_eq hop, rfl⟩)))
  case h_12 hop => exact .inr (.inr (.inr (.inr (.inl ⟨BitVec.eq_of_toNat_eq hop, rfl⟩))))
  case h_15 hop => exact .inr (.inr (.inr (.inr (.inr (.inl ⟨BitVec.eq_of_toNat_eq hop, rfl⟩)))))
  case h_16 =>
    have hop : opField w = 0b1111#4 := by
      simp only [imp_false] at *
      bv_omega
    exact .inr (.inr (.inr (.inr (.inr (.inr ⟨hop, rfl⟩)))))
  all_goals
    next hop => exact .inl ⟨_, _, _, rfl, ⟨fun _ _ _ => ⟨rfl, rfl⟩, fun _ _ _ => ⟨rfl, rfl⟩⟩, BitVec.eq_of_toNat_eq hop⟩

/-- The word an instruction was decoded from has the significant bits of its canonical word (R101, R102). -/
theorem canonical_of_decode {w : Code} {i : Instr} (h : decode w = .ok i) : w &&& significant i = encode i := by
  obtain ⟨op, rl, rr, hdec, hpair, hop⟩ | ⟨hop, hdec⟩ | ⟨hop, hdec⟩ | ⟨hop, hdec⟩ | ⟨hop, hdec⟩ | ⟨hop, hdec⟩ | ⟨hop, hdec⟩ :=
    decode_cases w <;> rw [hdec] at h
  · cases h
    exact canonical_decodeForms hpair hop
  · exact canonical_decode0111 hop h
  · cases h
    exact formL_canonical_iff.2 ⟨hop, rfl, rfl⟩
  · exact canonical_decode1010 hop h
  · cases h
    exact canonical_decode1011 hop
  · cases h
    rw [significant_decodeBc, encode_decodeBc]
    exact formL_canonical_iff.2 ⟨hop, rfl, rfl⟩
  · cases h
    exact formB_canonical_iff.2 ⟨hop, rfl⟩

theorem decode_eq_ok_iff {w : Code} {i : Instr} : decode w = .ok i ↔ w &&& significant i = encode i :=
  ⟨canonical_of_decode, decode_of_canonical⟩

/-- Words whose difference a mask clears are the same under the mask. -/
theorem and_eq_of_xor_and {w v m : Code} (h : (w ^^^ v) &&& m = 0#18) : w &&& m = v &&& m := by
  have hdist : (w ^^^ v) &&& m = (w &&& m) ^^^ (v &&& m) := by
    ext i
    simp [Bool.and_xor_distrib_right]
  rwa [hdist, BitVec.xor_eq_zero_iff] at h

/-- BL uses its offset for the target only (46_relative_branch.md R182). -/
theorem exec_bl (off : BitVec 14) (s : Machine.State) : Machine.exec (.bl off) s =
    .next (((s.setX 15#4 (Machine.linkValue s.pc)).setPc (Machine.blTarget s.pc off)).freeNZ) := rfl

/-! ## The statement O2 -/

/-- Settles O2: `decode_eq_ok_iff` says that the decoder sees a word only through its significant bits, and the target of BL
takes its offset modulo 4096 (30_encoding.md R99). -/
theorem dontCareBitsDoNotMatter : Obligations.DontCareBitsDoNotMatter := by
  refine ⟨fun w i => decode_eq_ok_iff, fun w v i hw hx => ?_, fun m n s hmn => ?_⟩
  · rw [decode_eq_ok_iff, ← and_eq_of_xor_and hx]
    exact decode_eq_ok_iff.1 hw
  · have htarget : Machine.blTarget s.pc m = Machine.blTarget s.pc n := congrArg (s.pc + 1#12 + ·) hmn
    rw [exec_bl, exec_bl, htarget]

end Sys2Proof
end

section
/-! PROOFS. Exceptions: interrupts are the only ones, and the lowest vector comes first (60_exceptions.md R200, R208). -/

namespace Sys2Proof.Machine

/-! ## Which interrupt is taken -/

/-- The source entered has the lowest vector among those that request (60_exceptions.md R208). -/
theorem vectorOf_firstRequest_le {s : State} {a : IrqAnswer} {j k : IrqSource} (h : firstRequest s a = some k)
    (hj : irqRequest s a j = true) : (vectorOf k).toNat ≤ (vectorOf j).toNat := by
  unfold firstRequest at h
  split at h
  · cases h
    cases j <;> decide
  · next hinput =>
    split at h
    · cases h
      cases j with
      | msgInput => exact absurd hj hinput
      | msgOutput | rs232 => decide
    · next houtput =>
      split at h
      · cases h
        cases j with
        | msgInput => exact absurd hj hinput
        | msgOutput => exact absurd hj houtput
        | rs232 => decide
      · cases h

/-- The step that takes an interrupt is its entry (60_exceptions.md R210). -/
theorem step_of_interruptNow {s : State} {k : IrqSource} (h : interruptNow s = some k) :
    step s = .next (interruptEntry k (atBoundary s)) := by
  simp only [step, h]

/-- Settles O35: the source taken is the first request, whose vector is the lowest, and its entry clears `GIE`. -/
theorem interruptPriority : Obligations.InterruptPriority := by
  refine ⟨fun s k h => ?_, fun s hgie => interruptNow_gie_clear hgie⟩
  obtain ⟨_, hfirst, _⟩ := interruptNow_eq_some h
  exact ⟨firstRequest_requests hfirst, fun j hj => vectorOf_firstRequest_le hfirst hj,
    _, step_of_interruptNow h, interruptEntry_gie k (atBoundary s)⟩

/-! ## No instruction faults -/

theorem loadOp_ne_fault (d b : RegNo) (o : Operand) (s : State) (e : Fault) : loadOp d b o s ≠ .fault e := by
  unfold loadOp
  split <;> nofun

theorem storeOp_ne_fault (d b : RegNo) (o : Operand) (s : State) (e : Fault) : storeOp d b o s ≠ .fault e := by
  unfold storeOp
  split <;> nofun

/-- An instruction completes or is refused (60_exceptions.md R200): the one fault is that of the fetch. -/
theorem exec_ne_fault (i : Instr) (s : State) (e : Fault) : exec i s ≠ .fault e := by
  cases i with
  | ldRL | ldRR => exact loadOp_ne_fault _ _ _ s e
  | stRL | stRR => exact storeOp_ne_fault _ _ _ s e
  | brReg | brRet =>
    simp only [exec, execBrReg, execBrRet]
    split <;> nofun
  | _ => nofun

/-! ## Where an instruction goes -/

theorem memRead_pc {ea v : Word} {s t : State} (h : memRead ea s = .ok (v, t)) : t.pc = s.pc := by
  obtain ⟨_, _, _, rfl⟩ | ⟨n, port, _, _, _, rfl⟩ := memRead_cases h
  · rfl
  · exact ioReadState_pc n port s

theorem memWrite_pc {ea v : Word} {s t : State} (h : memWrite ea v s = .ok t) : t.pc = s.pc := by
  obtain ⟨a, _, rfl⟩ | ⟨n, port, _, _, rfl⟩ := memWrite_cases h
  · exact State.storeWord_pc s a v
  · exact ioWriteState_pc n port v s

/-- An instruction that does not continue at `pc` + 1 is one that transfers control: BLR, two forms of BR, Bc, BL. -/
theorem transfers_of_exec_pc_ne {i : Instr} {s t : State} (h : exec i s = .next t) (hpc : t.pc ≠ s.pc + 1#12) :
    familyOf i ∈ [Family.blr, Family.brReg, Family.brRet, Family.bc, Family.bl] := by
  obtain ⟨d, r, f, _, rfl, _⟩ | ⟨d, x, y, _, _, rfl⟩ | ⟨hbc, _⟩ | ⟨hlink, _⟩ | ⟨a, rfl, _⟩ | ⟨k, _, rfl⟩ | ⟨a, rfl, _⟩ |
    ⟨d, b, o, v, u, _, _, _, hread, rfl⟩ | ⟨d, b, o, u, _, _, _, hwrite, rfl⟩ := exec_cases h
  · exact absurd (writeResultFlags_pc d r f s) hpc
  · exact absurd (by simp) hpc
  · simp [hbc]
  · rcases hlink with hbl | hblr
    · simp [hbl]
    · simp [hblr]
  · simp [familyOf]
  · exact absurd (by simp) hpc
  · simp [familyOf]
  · exact absurd (by simp [memRead_pc hread]) hpc
  · exact absurd (by simp [memWrite_pc hwrite]) hpc

/-- Settles O44: no instruction faults, and a step is an interrupt entry or an instruction, which leaves the sequence only by
transferring control. -/
theorem noSynchronousException : Obligations.NoSynchronousException := by
  refine ⟨exec_ne_fault, fun s t hstep hpc => ?_⟩
  obtain ⟨k, hk, _⟩ | ⟨i, hruns, hexec⟩ := step_cases hstep
  · exact .inl ⟨k, hk⟩
  · rw [← atBoundary_pc s] at hpc
    exact .inr ⟨i, hruns, transfers_of_exec_pc_ne hexec hpc⟩

end Sys2Proof.Machine
end

section
/-! PROOFS. The decoder on canonical words and on the unassigned groups (30_encoding.md R100 to R103). -/

namespace Sys2Proof

/-! ## Canonical words -/

/-- The canonical word has 0 in every don't-care bit (R102). -/
theorem encode_and_significant (i : Instr) : encode i &&& significant i = encode i := by
  cases i with
  | andRL | bicRL | orRL | xorRL | addRL | subRL | mulRL | rorRL | ldRL | stRL =>
    exact literal_canonical_iff.2 ⟨sBit_formRL .., opField_formRL .., dField_formRL .., bField_formRL .., lit5_formRL ..⟩
  | andRR | bicRR | orRR | xorRR | addRR | subRR | mulRR | rorRR | ldRR | stRR =>
    exact register_canonical_iff.2 ⟨sBit_formRR .., opField_formRR .., dField_formRR .., bField_formRR .., aField_formRR ..⟩
  | notRL => exact not_literal_canonical_iff.2 ⟨sBit_formRL .., opField_formRL .., dField_formRL .., lit5_formRL ..⟩
  | notRR =>
    exact not_register_canonical_iff.2
      ⟨sBit_formRR .., opField_formRR .., dField_formRR .., ofBool_eq_zero.2 (tBit_formRR ..), aField_formRR ..⟩
  | ldh | ldc =>
    exact not_register_canonical_iff.2
      ⟨sBit_formRR .., opField_formRR .., dField_formRR .., ofBool_eq_one.2 (tBit_formRR ..), aField_formRR ..⟩
  | blr => exact blr_canonical_iff.2 ⟨sBit_formRR .., opField_formRR .., aField_formRR ..⟩
  | brReg => exact br_canonical_iff.2 ⟨sBit_formRR .., opField_formRR .., ofBool_eq_zero.2 (tBit_formRR ..), aField_formRR ..⟩
  | brRet => exact br_canonical_iff.2 ⟨sBit_formRR .., opField_formRR .., ofBool_eq_one.2 (tBit_formRR ..), aField_formRR ..⟩
  | brMode => exact brMode_canonical_iff.2 ⟨sBit_formRL .., opField_formRL .., kField_formRL ..⟩
  | lit | beq | bneq | bcs | bcc | bn | bnn | bv | bnv | bhi | bls | bgeq | blss | bgtr | bleq | bt | bf | bl =>
    exact and_significant_all _

/-- Settles O1: the canonical word agrees with itself on the significant bits, which are all that the decoder looks at. -/
theorem decodeInvertsEncode : Obligations.DecodeInvertsEncode := fun i =>
  decode_of_canonical (encode_and_significant i)

/-- Settles O4: ten evaluations of the decoder. -/
theorem listedWordsDecode : Obligations.ListedWordsDecode := by
  unfold Obligations.ListedWordsDecode
  decide

/-! ## The fields of a word as numbers -/

theorem toNat_opField (w : Code) : (opField w).toNat = w.toNat / 2 ^ 14 := by
  rw [opField, BitVec.extractLsb'_toNat, Nat.shiftRight_eq_div_pow]
  omega

theorem toNat_aField (w : Code) : (aField w).toNat = w.toNat % 2 ^ 4 := by
  rw [aField, BitVec.extractLsb'_toNat, Nat.shiftRight_zero]

theorem sBit_eq_decide (w : Code) : sBit w = decide (w.toNat / 2 ^ 5 % 2 = 1) := by
  rw [sBit, BitVec.getLsbD, Nat.testBit_eq_decide_div_mod_eq]

theorem tBit_eq_decide (w : Code) : tBit w = decide (w.toNat / 2 ^ 4 % 2 = 1) := by
  rw [tBit, BitVec.getLsbD, Nat.testBit_eq_decide_div_mod_eq]

theorem opField_eq_iff {w : Code} {op : BitVec 4} : opField w = op ↔ w.toNat / 2 ^ 14 = op.toNat := by
  rw [← toNat_opField, BitVec.toNat_inj]

/-! ## The words the decoder refuses -/

/-- Group (a) of R103 within opcode 0111. -/
theorem decode0111_eq_error_iff {w : Code} {g : Unassigned} :
    decode0111 w = .error g ↔ g = .op0111 ∧ sBit w = true ∧ tBit w = true ∧ 2 ≤ (aField w).toNat := by
  unfold decode0111
  split
  next hs =>
    split
    next ht =>
      split
      next ha => simp [ha]
      next ha => simp [ha]
      next h0 h1 =>
        have hlarge : 2 ≤ (aField w).toNat := by
          simp only [imp_false] at h0 h1
          omega
        simp [hs, ht, hlarge, eq_comm]
    next ht => simp [ht]
  next hs => simp [hs]

/-- Group (b) of R103 within opcode 1010. -/
theorem decode1010_eq_error_iff {w : Code} {g : Unassigned} :
    decode1010 w = .error g ↔ g = .op1010 ∧ sBit w = false := by
  unfold decode1010
  cases sBit w <;> simp [eq_comm]

/-- Only within the opcodes 0111 and 1010 can a word be refused (R101). -/
theorem decode_eq_error_iff {w : Code} {g : Unassigned} :
    decode w = .error g ↔
      (opField w = 0b0111#4 ∧ decode0111 w = .error g) ∨ (opField w = 0b1010#4 ∧ decode1010 w = .error g) := by
  constructor
  · intro h
    obtain ⟨op, rl, rr, hdec, _⟩ | ⟨hop, hdec⟩ | ⟨_, hdec⟩ | ⟨hop, hdec⟩ | ⟨_, hdec⟩ | ⟨_, hdec⟩ | ⟨_, hdec⟩ :=
      decode_cases w <;> rw [hdec] at h
    case inr.inl => exact .inl ⟨hop, h⟩
    case inr.inr.inr.inl => exact .inr ⟨hop, h⟩
    all_goals cases h
  · rintro (⟨hop, h⟩ | ⟨hop, h⟩)
    · simp [decode, hop, h]
    · simp [decode, hop, h]

/-- Settles O3: a refused word is of opcode 0111 or 1010, where each group is read off the bits IR[5:0]. -/
theorem decodeRefusesExactlyUnassigned : Obligations.DecodeRefusesExactlyUnassigned := by
  intro w
  simp only [decode_eq_error_iff, decode0111_eq_error_iff, decode1010_eq_error_iff, opField_eq_iff, toNat_aField,
    sBit_eq_decide, tBit_eq_decide, decide_eq_true_eq, decide_eq_false_iff_not, BitVec.toNat_ofNat, reduceCtorEq,
    false_and, and_false, or_false, false_or, true_and]
  omega

end Sys2Proof
end

section
/-! PROOFS. The instructions that only compute: a result in the destination, flags, and a frame (40_logic.md R120 to R124,
41_arith.md R130 to R134, 42_not_ldh_ldc.md, 43_lit_ror.md). -/

namespace Sys2Proof.Machine

/-! ## The common shape (40_logic.md R120) -/

/-- A register instruction leaves its result and its flags, and nothing else but `pc`. -/
theorem computes_writeResultFlags (d : RegNo) (r : Word) (f : Flags) (s : State) :
    Computes s (writeResultFlags d r f s) d r f := by
  refine ⟨by simp [writeResultFlags_rf], fun k i hne => ?_, writeResultFlags_flags d r f s, writeResultFlags_pc d r f s,
    writeResultFlags_h d r f s, ⟨?_, ?_⟩, fun a => ?_, ⟨?_, ?_, ?_⟩, ?_, ?_, ?_, ?_⟩
  · rw [writeResultFlags_rf, if_neg (by simpa using hne)]
  all_goals simp

/-- The same for an instruction that keeps C and V (D8). -/
theorem computes_writeResult (d : RegNo) (r : Word) (s : State) :
    Computes s (writeResult d r s) d r (nzFlags r s.flags.c s.flags.v) :=
  computes_writeResultFlags d r (withNZ s.flags r) s

/-! ## Logic, LDH, LDC and LIT -/

/-- Settles O8: both forms are `writeResult` of the conjunction. -/
theorem andResult : Obligations.AndResult := fun s d _ _ _ =>
  ⟨⟨_, rfl, computes_writeResult d _ s⟩, ⟨_, rfl, computes_writeResult d _ s⟩⟩

/-- Settles O9: both forms are `writeResult` of the conjunction with the complement. -/
theorem bicResult : Obligations.BicResult := fun s d _ _ _ =>
  ⟨⟨_, rfl, computes_writeResult d _ s⟩, ⟨_, rfl, computes_writeResult d _ s⟩⟩

/-- Settles O10: both forms are `writeResult` of the disjunction. -/
theorem orResult : Obligations.OrResult := fun s d _ _ _ =>
  ⟨⟨_, rfl, computes_writeResult d _ s⟩, ⟨_, rfl, computes_writeResult d _ s⟩⟩

/-- Settles O11: both forms are `writeResult` of the exclusive disjunction. -/
theorem xorResult : Obligations.XorResult := fun s d _ _ _ =>
  ⟨⟨_, rfl, computes_writeResult d _ s⟩, ⟨_, rfl, computes_writeResult d _ s⟩⟩

/-- Settles O16: LDH is `writeResult` of `H`. -/
theorem ldhResult : Obligations.LdhResult := fun s d => ⟨_, rfl, computes_writeResult d s.h s⟩

/-- Settles O17: of the word that LDC gives N is 0 and Z the opposite of C. -/
theorem ldcResult : Obligations.LdcResult := by
  intro s d
  refine ⟨_, rfl, ?_⟩
  have hc := computes_writeResult d ((BitVec.ofBool s.flags.c).setWidth 32) s
  cases hflag : s.flags.c <;> rw [hflag] at hc <;> exact hc

theorem nzFlags_literal10 (n : BitVec 10) (c v : Bool) :
    nzFlags (literal10 n) c v = { n := false, z := decide (n = 0#10), c := c, v := v } := by
  have hz : literal10 n = 0#32 ↔ n = 0#10 := by
    simp only [literal10, ← BitVec.toNat_inj, BitVec.toNat_setWidth, BitVec.toNat_ofNat]
    omega
  have hn : (literal10 n).getLsbD 31 = false := by simp [literal10]
  simp only [nzFlags, hn, hz]

/-- Settles O18: a literal of 10 bits has bit 31 clear. -/
theorem litResult : Obligations.LitResult := by
  intro s d n
  refine ⟨_, literal10 n, rfl, BitVec.toNat_setWidth_of_le (by decide), ?_⟩
  rw [← nzFlags_literal10]
  exact computes_writeResult d (literal10 n) s

/-! ## NOT -/

theorem toNat_notResult_negate (y : Word) : (notResult .negate y).toNat = (2 ^ 32 - y.toNat) % 2 ^ 32 := by
  simp [notResult]

theorem toNat_notResult_complement (y : Word) : (notResult .complement y).toNat = 2 ^ 32 - 1 - y.toNat :=
  BitVec.toNat_not

/-- What both forms of NOT leave (42_not_ldh_ldc.md R140). -/
theorem exists_computes_notResult (s : State) (d : RegNo) (y : Word) :
    ∃ t r, (Host.Outcome.next (writeResult d (notResult s.params.notMode y) s) : Result) = .next t ∧
      Computes s t d r (nzFlags r s.flags.c s.flags.v) ∧
      (s.params.notMode = .negate → r.toNat = (2 ^ 32 - y.toNat) % 2 ^ 32) ∧
      (s.params.notMode = .complement → r.toNat = 2 ^ 32 - 1 - y.toNat) := by
  refine ⟨_, _, rfl, computes_writeResult d _ s, fun hm => ?_, fun hm => ?_⟩
  · rw [hm, toNat_notResult_negate]
  · rw [hm, toNat_notResult_complement]

/-- Settles O15: the literal form has the operand of the same value. -/
theorem notResult_spec : Obligations.NotResult := by
  intro s d a n
  have hlit : ((n.setWidth 32 : Word)).toNat = n.toNat := BitVec.toNat_setWidth_of_le (by decide)
  refine ⟨?_, exists_computes_notResult s d (s.x a)⟩
  rw [← hlit]
  exact exists_computes_notResult s d (n.setWidth 32)

/-! ## ADD and SUB in exact arithmetic (41_arith.md R130, R131) -/

theorem addCarry_eq (x y : Word) : addCarry x y = decide (2 ^ 32 ≤ x.toNat + y.toNat) := by
  have h := BitVec.uaddOverflow_eq x y
  rw [BitVec.msb_eq_getLsbD_last] at h
  exact h.symm

theorem addOverflow_eq (x y : Word) :
    addOverflow x y = decide (x.toInt + y.toInt < -2 ^ 31 ∨ 2 ^ 31 ≤ x.toInt + y.toInt) := by
  have h := BitVec.saddOverflow_eq x y
  simp only [BitVec.msb_eq_getLsbD_last] at h
  rw [addOverflow, bne, Bool.decide_or, Bool.or_comm]
  exact h.symm

theorem subOverflow_eq (x y : Word) :
    subOverflow x y = decide (x.toInt - y.toInt < -2 ^ 31 ∨ 2 ^ 31 ≤ x.toInt - y.toInt) := by
  have h := BitVec.ssubOverflow_eq x y
  simp only [BitVec.msb_eq_getLsbD_last] at h
  have hbits (a b c : Bool) : (a != b && c != a) = (!a && b && c || a && !b && !c) := by
    cases a <;> cases b <;> cases c <;> rfl
  rw [subOverflow, hbits, Bool.decide_or, Bool.or_comm (decide _)]
  exact h.symm

/-- ADD leaves the exact sum and its flags (41_arith.md R130). -/
theorem addsTo_addOp (s : State) (d b : RegNo) (o : Operand) : AddsTo s (addOp d b o s) d (s.x b) (operandA s o) :=
  ⟨_, _, computes_writeResultFlags .., BitVec.toNat_add .., rfl, rfl, addCarry_eq .., addOverflow_eq ..⟩

/-- Settles O12: both forms are `addOp`, whose bit formulas for C and V are the exact conditions. -/
theorem addResult : Obligations.AddResult := fun s d b a n =>
  ⟨⟨_, rfl, addsTo_addOp s d b (.lit n)⟩, ⟨_, rfl, addsTo_addOp s d b (.reg a)⟩⟩

/-- SUB leaves the exact difference and its flags (41_arith.md R131). -/
theorem subtractsTo_subOp (s : State) (d b : RegNo) (o : Operand) :
    SubtractsTo s (subOp d b o s) d (s.x b) (operandA s o) := by
  refine ⟨_, _, computes_writeResultFlags .., ?_, rfl, rfl, rfl, subOverflow_eq ..⟩
  rw [BitVec.toNat_sub]
  omega

/-- Settles O13: both forms are `subOp`. -/
theorem subResult : Obligations.SubResult := fun s d b a n =>
  ⟨⟨_, rfl, subtractsTo_subOp s d b (.lit n)⟩, ⟨_, rfl, subtractsTo_subOp s d b (.reg a)⟩⟩

/-! ## MUL (41_arith.md R134) -/

/-- The product of the factors read as signed numbers is exact in 64 bits. -/
theorem toInt_product_signed (x y : Word) : (product .signed x y).toInt = x.toInt * y.toInt := by
  have hx : (x.signExtend 64).toInt = x.toInt := BitVec.toInt_signExtend_of_le (by decide)
  have hy : (y.signExtend 64).toInt = y.toInt := BitVec.toInt_signExtend_of_le (by decide)
  have hle : x.toInt * y.toInt ≤ 2 ^ 62 := BitVec.toInt_mul_toInt_le
  have hge : -2 ^ 62 ≤ x.toInt * y.toInt := BitVec.le_toInt_mul_toInt
  rw [product, BitVec.toInt_mul, hx, hy]
  exact Int.bmod_eq_of_le (by omega) (by omega)

/-- The product of the factors read as unsigned numbers is exact in 64 bits. -/
theorem toNat_product_unsigned (x y : Word) : (product .unsigned x y).toNat = x.toNat * y.toNat := by
  have hlt : x.toNat * y.toNat < 2 ^ 32 * 2 ^ 32 := Nat.mul_lt_mul'' x.isLt y.isLt
  simp only [product, BitVec.toNat_mul, BitVec.toNat_setWidth_of_le (show 32 ≤ 64 by decide)]
  exact Nat.mod_eq_of_lt (by omega)

/-- MUL leaves the halves of the product in its destination and in `H`. -/
theorem multipliesTo_mulOp (s : State) (d b : RegNo) (o : Operand) :
    MultipliesTo s (mulOp d b o s) d (s.x b) (operandA s o) := by
  refine ⟨product s.params.mulSignedness (s.x b) (operandA s o), fun hm => ?_, fun hm => ?_, ?_, ?_, fun k i hne => ?_, ?_, ?_,
    ⟨?_, ?_⟩, fun a => ?_, ⟨?_, ?_, ?_⟩, ?_, ?_, ?_, ?_⟩
  · rw [hm, toInt_product_signed]
  · rw [hm, toNat_product_unsigned]
  · rw [← BitVec.setWidth_eq_extractLsb' (by decide), product_low]
    simp [mulOp]
  · rw [← productHigh_eq]
    simp [mulOp]
  · simp only [mulOp, State.advance_rf, State.setH_rf, State.rf_setX]
    rw [if_neg (by simpa using hne)]
  all_goals simp [mulOp]

/-- Settles O14: both forms are `mulOp`, and 64 bits hold the product exactly under both readings. -/
theorem mulResult : Obligations.MulResult := fun s d b a n =>
  ⟨⟨_, rfl, multipliesTo_mulOp s d b (.lit n)⟩, ⟨_, rfl, multipliesTo_mulOp s d b (.reg a)⟩⟩

/-! ## ROR (43_lit_ror.md R151) -/

theorem rotateAmount_eq (y : Word) : rotateAmount y = y.toNat % 32 := by
  rw [rotateAmount, BitVec.extractLsb'_toNat, Nat.shiftRight_zero]

/-- Bit `i` of the rotation is bit `i + k` modulo 32. -/
theorem getLsbD_ror32 {x : Word} {k i : Nat} (hk : k < 32) (hi : i < 32) :
    (ror32 x k).getLsbD i = x.getLsbD ((i + k) % 32) := by
  have hrot : ror32 x k = x.rotateRight k := (BitVec.rotateRight_eq_rotateRightAux_of_lt hk).symm
  rw [hrot, BitVec.getLsbD_rotateRight, Nat.mod_eq_of_lt hk]
  by_cases hwrap : i < 32 - k
  · rw [decide_eq_true hwrap, Nat.mod_eq_of_lt (by omega), Nat.add_comm i]
    rfl
  · have hmod : (i + k) % 32 = i - (32 - k) := by omega
    simp [hwrap, hi, hmod]

/-- ROR leaves the rotated word, and in C the bit that came to place 0. -/
theorem rotatesTo_rorOp (s : State) (d b : RegNo) (o : Operand) : RotatesTo s (rorOp d b o s) d (s.x b) (operandA s o) := by
  have hlt : (operandA s o).toNat % 32 < 32 := Nat.mod_lt _ (by decide)
  have hbit {i : Nat} (hi : i < 32) : (ror32 (s.x b) ((operandA s o).toNat % 32)).getLsbD i =
      (s.x b).getLsbD ((i + (operandA s o).toNat) % 32) := by
    rw [getLsbD_ror32 hlt hi, Nat.add_mod_mod]
  refine ⟨ror32 (s.x b) ((operandA s o).toNat % 32), ?_, fun i hi => hbit hi⟩
  rw [← Nat.zero_add (operandA s o).toNat, ← hbit (by decide), Nat.zero_add, ← rotateAmount_eq]
  exact computes_writeResultFlags ..

/-- Settles O19: both forms are `rorOp`. -/
theorem rorResult : Obligations.RorResult := fun s d b a n =>
  ⟨⟨_, rfl, rotatesTo_rorOp s d b (.lit n)⟩, ⟨_, rfl, rotatesTo_rorOp s d b (.reg a)⟩⟩

/-! ## All of them (40_logic.md R120) -/

/-- An instruction of one of the computing families completes, with N and Z from its result. -/
theorem exec_of_computing {i : Instr}
    (h : familyOf i ∈ [Family.logic, Family.add, Family.sub, Family.not, Family.ldh, Family.ldc, Family.lit, Family.ror])
    (s : State) :
    ∃ d r f, exec i s = .next (writeResultFlags d r f s) ∧ destOf i = some d ∧ f.n = r.getLsbD 31 ∧ f.z = decide (r = 0#32) := by
  cases i with
  | andRL | andRR | bicRL | bicRR | orRL | orRR | xorRL | xorRR | addRL | addRR | subRL | subRR | notRL | notRR | ldh | ldc | lit
  | rorRL | rorRR => exact ⟨_, _, _, rfl, rfl, rfl, rfl⟩
  | _ => simp [familyOf] at h

/-- Settles O50: each of these instructions is `writeResultFlags` with N and Z of the result. -/
theorem registerInstructionsComplete : Obligations.RegisterInstructionsComplete := by
  intro i s hi
  obtain ⟨d, r, f, hexec, hdest, hn, hz⟩ := exec_of_computing hi s
  obtain ⟨hrf, hregs, hflags, hpc, hh, honly⟩ := computes_writeResultFlags d r f s
  refine ⟨_, d, hexec, hdest, hregs, ?_, ?_, hh, hpc, honly⟩
  · rw [hflags, hrf, hn]
  · rw [hflags, hrf, hz]

end Sys2Proof.Machine
end

section
/-! PROOFS. The branches and mode control (44_register_branch.md R160 to R163, 46_relative_branch.md R180 to R182). -/

namespace Sys2Proof.Machine

/-! ## Targets and links -/

/-- A register used as a target gives its low 12 bits (10_state.md R31). -/
theorem toNat_targetOf (v : Word) : (targetOf v).toNat = v.toNat % 4096 := BitVec.toNat_setWidth 12 v

theorem toNat_linkValue (p : PAddr) : (linkValue p).toNat = (p.toNat + 1) % 4096 := by
  rw [linkValue, BitVec.toNat_setWidth_of_le (by decide), BitVec.toNat_add]
  rfl

theorem toNat_blTarget (p : PAddr) (off : BitVec 14) : (blTarget p off).toNat = (p.toNat + 1 + off.toNat) % 4096 := by
  simp only [blTarget, BitVec.toNat_add, BitVec.toNat_setWidth, BitVec.toNat_ofNat]
  omega

/-- The offset of Bc is signed (46_relative_branch.md R180). -/
theorem toNat_bcTarget (p : PAddr) (off : BitVec 10) :
    ((bcTarget p off).toNat : Int) = (p.toNat + 1 + off.toInt) % 4096 := by
  have hoff : (off.signExtend 12).toInt = off.toInt := BitVec.toInt_signExtend_of_le (by decide)
  rw [BitVec.toInt_eq_toNat_cond (off.signExtend 12)] at hoff
  simp only [bcTarget, BitVec.toNat_add, BitVec.toNat_ofNat]
  split at hoff <;> omega

/-- What a call leaves but for the target of its jump, whatever that is (D5, D9). -/
theorem links_freeNZ (s : State) (p : PAddr) : Links s ((s.setX 15#4 (linkValue s.pc)).setPc p).freeNZ := by
  refine ⟨?_, fun k i hne => ?_, ?_, ?_, ?_, ⟨?_, ?_⟩, fun a => ?_, ⟨?_, ?_⟩, ⟨?_, ?_, ?_⟩, ?_, ?_, ?_, ?_⟩
  · rw [State.freeNZ_rf, State.setPc_rf, State.rf_setX_same, toNat_linkValue]
  · rw [State.freeNZ_rf, State.setPc_rf, State.rf_setX, if_neg (by simpa using hne)]
  all_goals simp

/-- Settles O20: the target is read before the link is written, so that `a` = 15 is no exception (U8). -/
theorem blrResult : Obligations.BlrResult := fun s a => ⟨_, rfl, toNat_targetOf (s.x a), links_freeNZ s (targetOf (s.x a))⟩

/-- Settles O34: the target is counted modulo 4096, and the rest is what every call leaves. -/
theorem branchAndLinkResult : Obligations.BranchAndLinkResult := fun s off =>
  ⟨_, rfl, toNat_blTarget s.pc off, links_freeNZ s (blTarget s.pc off)⟩

/-! ## The three forms of BR -/

theorem exec_brReg_of_main {s : State} (h : s.intMd = false) (a : RegNo) :
    exec (.brReg a) s = .next (s.setPc (targetOf (s.rf false a))) := by
  simp [exec, execBrReg, h]

theorem exec_brReg_of_handler {s : State} (h : s.intMd = true) (a : RegNo) :
    exec (.brReg a) s = .refused .brBank0InInterruptMode := by
  simp [exec, execBrReg, h]

theorem exec_brRet_of_handler {s : State} (h : s.intMd = true) (a : RegNo) :
    exec (.brRet a) s = .next (interruptReturn a s) := by
  simp [exec, execBrRet, h]

theorem exec_brRet_of_main {s : State} (h : s.intMd = false) (a : RegNo) :
    exec (.brRet a) s = .refused .brReturnOutsideInterruptMode := by
  simp [exec, execBrRet, h]

/-- Settles O21: `intMd` alone decides between completing and refusal. -/
theorem brBankZeroResult : Obligations.BrBankZeroResult := fun s a =>
  ⟨fun h => ⟨_, exec_brReg_of_main h a, toNat_targetOf (s.rf false a), rfl⟩, fun h => exec_brReg_of_handler h a⟩

/-- Settles O22: of the two significant bits the upper is the bank and the lower the interrupt enable. -/
theorem brModeResult : Obligations.BrModeResult := by
  intro s k
  have hbits : k.getLsbD 1 = decide (2 ≤ k.toNat) ∧ k.getLsbD 0 = decide (k.toNat % 2 = 1) := by
    revert k
    decide
  obtain ⟨hbank, henable⟩ := hbits
  refine ⟨_, rfl, hbank, henable, rfl, fun bank i => ?_, rfl, rfl, fun a => rfl, ⟨rfl, rfl, rfl⟩, rfl, rfl, rfl, rfl⟩
  simp

/-- Settles O23: in interrupt mode the form is `interruptReturn`, else it is refused. -/
theorem brReturnResult : Obligations.BrReturnResult := by
  refine fun s a => ⟨fun h => ?_, fun h => exec_brRet_of_main h a⟩
  exact ⟨_, exec_brRet_of_handler h a, toNat_targetOf (s.rf true a), rfl, rfl, rfl, rfl, rfl, rfl,
    fun bank i => interruptReturn_rf a s bank i, rfl, fun _ => rfl, ⟨rfl, rfl, rfl⟩, rfl, rfl, rfl, rfl⟩

/-! ## Bc (46_relative_branch.md R180, R181) -/

/-- A branch goes to its target or to the next instruction, and writes `pc` alone. -/
theorem branches_branchIf (s : State) (taken : Bool) (off : BitVec 10) : Branches s (branchIf taken off s) taken off := by
  rw [branchIf_eq]
  refine ⟨?_, rfl⟩
  cases taken with
  | true => exact toNat_bcTarget s.pc off
  | false =>
    simp only [Bool.false_eq_true, if_false, State.setPc_pc, BitVec.toNat_add, BitVec.toNat_ofNat]
    omega

/-- The branch of a condition whose truth is known. -/
theorem branches_of_condHolds {s : State} {c : Cond} {taken : Bool} (h : condHolds c s.flags = taken) (off : BitVec 10) :
    Branches s (branchIf (condHolds c s.flags) off s) taken off :=
  h ▸ branches_branchIf s taken off

theorem condHolds_hi (f : Flags) : condHolds .hi f = (f.c && !f.z) := by simp [condHolds]

/-- Settles O32: each Bc is `branchIf` on its condition. -/
theorem branchResult : Obligations.BranchResult := fun s off =>
  ⟨⟨_, rfl, branches_branchIf s _ off⟩, ⟨_, rfl, branches_branchIf s _ off⟩, ⟨_, rfl, branches_branchIf s _ off⟩,
    ⟨_, rfl, branches_branchIf s _ off⟩, ⟨_, rfl, branches_branchIf s _ off⟩, ⟨_, rfl, branches_branchIf s _ off⟩,
    ⟨_, rfl, branches_branchIf s _ off⟩, ⟨_, rfl, branches_branchIf s _ off⟩,
    ⟨_, rfl, branches_of_condHolds (condHolds_hi s.flags) off⟩, ⟨_, rfl, branches_branchIf s _ off⟩,
    ⟨_, rfl, branches_branchIf s _ off⟩, ⟨_, rfl, branches_branchIf s _ off⟩, ⟨_, rfl, branches_branchIf s _ off⟩,
    ⟨_, rfl, branches_branchIf s _ off⟩, ⟨_, rfl, branches_branchIf s _ off⟩, ⟨_, rfl, branches_branchIf s _ off⟩⟩

/-! ## The conditions after SUB (41_arith.md R132) -/

@[simp] theorem exec_subForm (d b : RegNo) (o : Operand) (s : State) : exec (subForm d b o) s = .next (subOp d b o s) := by
  cases o <;> rfl

@[simp] theorem subOp_flags (d b : RegNo) (o : Operand) (s : State) :
    (subOp d b o s).flags = subFlags (s.x b) (operandA s o) := rfl

/-- Z after SUB: the operands are equal. -/
theorem subFlags_z (p q : Word) : (subFlags p q).z = decide (p = q) := by
  have h : p - q = 0#32 ↔ p = q := sub_eq_zero
  rw [← decide_eq_decide.2 h]
  rfl

theorem subFlags_c (p q : Word) : (subFlags p q).c = decide (q.toNat ≤ p.toNat) := rfl

/-- S after SUB: the first operand is less as a signed number. Where the difference overflows, its sign is the wrong one. -/
theorem flagS_subFlags (p q : Word) : flagS (subFlags p q) = decide (p.toInt < q.toInt) := by
  have hn : (subFlags p q).n = decide ((p - q).toInt < 0) := by
    rw [← BitVec.msb_eq_toInt, BitVec.msb_eq_getLsbD_last]
    rfl
  have hv : (subFlags p q).v = _ := subOverflow_eq p q
  have hp := BitVec.le_toInt p
  have hq := BitVec.le_toInt q
  have hp' := BitVec.toInt_lt (x := p)
  have hq' := BitVec.toInt_lt (x := q)
  rw [flagS, hn, hv, Bool.eq_iff_iff]
  simp only [bne_iff_ne, ne_eq, decide_eq_decide, decide_eq_true_eq, BitVec.toInt_sub, Int.bmod_def]
  split <;> omega

/-- Each condition compares the operands of the SUB that set the flags (41_arith.md R132). -/
theorem condHolds_subFlags (p q : Word) :
    condHolds .eq (subFlags p q) = decide (p = q) ∧ condHolds .neq (subFlags p q) = decide (p ≠ q) ∧
    condHolds .cs (subFlags p q) = decide (q.toNat ≤ p.toNat) ∧ condHolds .cc (subFlags p q) = decide (p.toNat < q.toNat) ∧
    condHolds .hi (subFlags p q) = decide (q.toNat < p.toNat) ∧ condHolds .ls (subFlags p q) = decide (p.toNat ≤ q.toNat) ∧
    condHolds .geq (subFlags p q) = decide (q.toInt ≤ p.toInt) ∧ condHolds .lss (subFlags p q) = decide (p.toInt < q.toInt) ∧
    condHolds .gtr (subFlags p q) = decide (q.toInt < p.toInt) ∧ condHolds .leq (subFlags p q) = decide (p.toInt ≤ q.toInt) := by
  have hnat : p = q ↔ p.toNat = q.toNat := BitVec.toNat_inj.symm
  have hint : p = q ↔ p.toInt = q.toInt := BitVec.toInt_inj.symm
  have horder : p.toInt < q.toInt ∨ p = q ↔ p.toInt ≤ q.toInt := by rw [hint]; omega
  have horderNat : p.toNat < q.toNat ∨ p = q ↔ p.toNat ≤ q.toNat := by rw [hnat]; omega
  simp only [condHolds, flagS_subFlags, subFlags_z, subFlags_c, ← decide_not, ← Bool.decide_or, Nat.not_le, horderNat, horder,
    Int.not_lt, Int.not_le, ne_eq, and_self]

/-- Settles O33: the flags are those of the SUB, on which `condHolds_subFlags` reads each condition. -/
theorem branchesCompareAfterSub : Obligations.BranchesCompareAfterSub := by
  intro s t d b o off hexec
  rw [exec_subForm] at hexec
  cases hexec
  obtain ⟨heq, hneq, hcs, hcc, hhi, hls, hgeq, hlss, hgtr, hleq⟩ := condHolds_subFlags (s.x b) (operandA s o)
  have hv : condHolds .v (subFlags (s.x b) (operandA s o)) = _ := subOverflow_eq (s.x b) (operandA s o)
  exact ⟨⟨_, rfl, branches_of_condHolds heq off⟩, ⟨_, rfl, branches_of_condHolds hneq off⟩,
    ⟨_, rfl, branches_of_condHolds hcs off⟩, ⟨_, rfl, branches_of_condHolds hcc off⟩,
    ⟨_, rfl, branches_of_condHolds hhi off⟩, ⟨_, rfl, branches_of_condHolds hls off⟩,
    ⟨_, rfl, branches_of_condHolds hgeq off⟩, ⟨_, rfl, branches_of_condHolds hlss off⟩,
    ⟨_, rfl, branches_of_condHolds hgtr off⟩, ⟨_, rfl, branches_of_condHolds hleq off⟩,
    ⟨_, rfl, branches_branchIf _ _ off⟩, ⟨_, rfl, branches_of_condHolds hv off⟩⟩

end Sys2Proof.Machine
end

section
/-! PROOFS. LD and ST: the addresses, the data memory and the ports (20_memory.md R60 to R82, 45_load_store.md R170, R171). -/

namespace Sys2Proof.Machine

/-! ## Addresses as numbers (20_memory.md R62, R66) -/

theorem bits_11_8_iff (ea : Word) : ea.extractLsb' 8 4 = 0b1111#4 ↔ ea.toNat / 256 % 16 = 15 := by
  rw [← BitVec.toNat_inj, BitVec.extractLsb'_toNat, Nat.shiftRight_eq_div_pow]
  rfl

theorem bits_31_12_iff (ea : Word) : ea.extractLsb' 12 20 = 0#20 ↔ ea.toNat < 4096 := by
  rw [← BitVec.toNat_inj, BitVec.extractLsb'_toNat, Nat.shiftRight_eq_div_pow, BitVec.toNat_ofNat]
  omega

theorem bits_31_11_iff (ea : Word) : ea.extractLsb' 11 21 = 0#21 ↔ ea.toNat < 2048 := by
  rw [← BitVec.toNat_inj, BitVec.extractLsb'_toNat, Nat.shiftRight_eq_div_pow, BitVec.toNat_ofNat]
  omega

theorem port_bits (ea : Word) : ea.extractLsb' 0 5 = ea.setWidth 5 := (BitVec.setWidth_eq_extractLsb' (by decide)).symm

theorem data_bits (ea : Word) : ea.extractLsb' 0 11 = ea.setWidth 11 := (BitVec.setWidth_eq_extractLsb' (by decide)).symm

/-- The classes of 20_memory.md R62 in numbers. -/
theorem classify_eq (m : AddrDecode) (ea : Word) :
    classify m ea =
      if ea.toNat < 4096 ∧ ea.toNat / 256 % 16 = 15 then .io (ea.setWidth 5)
      else if ea.toNat < 2048 then .dmem (ea.setWidth 11)
      else if m = .refuse then .undecoded
      else if ea.toNat / 256 % 16 = 15 then .io (ea.setWidth 5)
      else .dmem (ea.setWidth 11) := by
  cases m <;> simp only [classify, bits_11_8_iff, bits_31_12_iff, bits_31_11_iff, port_bits, data_bits, if_true, if_false,
    reduceCtorEq]

theorem classify_of_data (m : AddrDecode) {ea : Word} (h : ea.toNat < 2048) : classify m ea = .dmem (ea.setWidth 11) := by
  rw [classify_dmem m h, data_bits]

theorem classify_of_window (m : AddrDecode) {ea : Word} (h : InIoWindow ea) : classify m ea = .io (ea.setWidth 5) := by
  obtain ⟨hlow, hhigh⟩ := h
  rw [classify_io m hlow (by omega), port_bits]

theorem classify_of_undecoded {ea : Word} (h : IsUndecoded ea) :
    classify .refuse ea = .undecoded ∧
    classify .aliased ea = if ea.toNat / 256 % 16 = 15 then .io (ea.setWidth 5) else .dmem (ea.setWidth 11) := by
  obtain ⟨hlow, hwindow⟩ := h
  simp only [InIoWindow] at hwindow
  have hio : ¬(ea.toNat < 4096 ∧ ea.toNat / 256 % 16 = 15) := by omega
  simp only [classify_eq, if_neg hio, if_neg (Nat.not_lt.2 hlow), if_true, if_false, reduceCtorEq, and_self]

/-- An address that reaches data memory, decoded in full or not, has the word of its low 11 bits. -/
theorem eq_of_classify_dmem {m : AddrDecode} {ea : Word} {a : BitVec 11} (h : classify m ea = .dmem a) :
    a = ea.setWidth 11 ∧ ea.toNat / 256 % 16 ≠ 15 := by
  rw [classify_eq] at h
  split at h
  · cases h
  · split at h
    · cases h
      exact ⟨rfl, by omega⟩
    · split at h
      · cases h
      · split at h
        · cases h
        · next hbits => cases h; exact ⟨rfl, hbits⟩

/-- An address that reaches a port, decoded in full or not, has the port of its low 5 bits. -/
theorem eq_of_classify_io {m : AddrDecode} {ea : Word} {p : PortNo} (h : classify m ea = .io p) :
    p = ea.setWidth 5 ∧ ea.toNat / 256 % 16 = 15 := by
  rw [classify_eq] at h
  split at h
  · next hio =>
    cases h
    obtain ⟨_, hbits⟩ := hio
    exact ⟨rfl, hbits⟩
  · split at h
    · cases h
    · split at h
      · cases h
      · split at h
        · next hbits => cases h; exact ⟨rfl, hbits⟩
        · cases h

/-- Only with ADDR_DECODE refuse, and only an address outside both classes, is undecoded. -/
theorem eq_of_classify_undecoded {m : AddrDecode} {ea : Word} (h : classify m ea = .undecoded) :
    m = .refuse ∧ IsUndecoded ea := by
  rw [classify_eq] at h
  split at h
  · cases h
  · next hio =>
    split at h
    · cases h
    · next hdata =>
      split at h
      · next hrefuse =>
        refine ⟨hrefuse, by omega, fun hwindow => hio ?_⟩
        obtain ⟨hlow, hhigh⟩ := hwindow
        omega
      · split at h <;> cases h

theorem eq_setWidth_of_lt {ea : Word} (h : ea.toNat < 2048) : ea = (ea.setWidth 11).setWidth 32 := by
  rw [← BitVec.toNat_inj, BitVec.toNat_setWidth, BitVec.toNat_setWidth]
  omega

/-! ## The frame of an access -/

/-- What `MemRead` and `MemWrite` leave unchanged of the core. -/
structure AccessFrame (s t : State) : Prop where
  regs : SameRegs s t
  flags : t.flags = s.flags
  h : t.h = s.h
  pc : t.pc = s.pc
  mode : SameMode s t
  constants : SameConstants s t

theorem AccessFrame.refl (s : State) : AccessFrame s s :=
  ⟨fun _ _ => rfl, rfl, rfl, rfl, ⟨rfl, rfl⟩, rfl, rfl, rfl, rfl⟩

theorem accessFrame_storeWord (s : State) (a : BitVec 11) (v : Word) : AccessFrame s (s.storeWord a v) :=
  ⟨State.storeWord_rf s a v, rfl, rfl, rfl, ⟨rfl, rfl⟩, rfl, rfl, rfl, rfl⟩

@[simp] theorem NetNode.setInAddr_id (n : NetNode) (m : BufAddr) (a : BitVec 6) : (n.setInAddr m a).id = n.id := by
  cases m <;> rfl

@[simp] theorem NetNode.setOutAddr_id (n : NetNode) (m : BufAddr) (a : BitVec 6) : (n.setOutAddr m a).id = n.id := by
  cases m <;> rfl

/-- No read changes the netNode's id (60_exceptions.md R226). -/
@[simp] theorem portReadEffect_netNode_id (q : Port) (w : Word) (s : State) :
    (portReadEffect q w s).dev.netNode.id = s.dev.netNode.id := by
  cases q with
  | netData =>
    simp only [portReadEffect]
    split <;> simp [NetNode.take, NetNode.scrambleIn]
  | rsData | ddrData =>
    simp only [portReadEffect]
    split <;> simp
  | _ => rfl

/-- No write changes the netNode's id (60_exceptions.md R226). -/
@[simp] theorem portWriteEffect_netNode_id (q : Port) (v : Word) (s : State) :
    (portWriteEffect q v s).dev.netNode.id = s.dev.netNode.id := by
  cases q with
  | netData =>
    simp only [portWriteEffect]
    split <;> simp [NetNode.append, NetNode.scrambleOut]
  | rsData | ddrData | ddrCommand =>
    simp only [portWriteEffect]
    split <;> simp
  | _ => rfl

@[simp] theorem ioReadState_dev (p : PortNo) (q : Port) (s : State) :
    (ioReadState p q s).dev = (portReadEffect q (portValue s.dev q s.ioAnswer) s.ioAnswered).dev := rfl

@[simp] theorem ioWriteState_dev (p : PortNo) (q : Port) (v : Word) (s : State) :
    (ioWriteState p q v s).dev = (portWriteEffect q v s).dev := rfl

theorem accessFrame_ioReadState (p : PortNo) (q : Port) (s : State) : AccessFrame s (ioReadState p q s) :=
  ⟨ioReadState_rf p q s, by simp, by simp, by simp, ⟨by simp, by simp⟩, by simp, by simp, by simp, by simp⟩

theorem accessFrame_ioWriteState (p : PortNo) (q : Port) (v : Word) (s : State) : AccessFrame s (ioWriteState p q v s) :=
  ⟨ioWriteState_rf p q v s, by simp, by simp, by simp, ⟨by simp, by simp⟩, by simp, by simp, by simp, by simp⟩

theorem accessFrame_of_memRead {ea v : Word} {s t : State} (h : memRead ea s = .ok (v, t)) :
    AccessFrame s t ∧ t.dmem = s.dmem := by
  obtain ⟨_, _, _, rfl⟩ | ⟨p, q, _, _, _, rfl⟩ := memRead_cases h
  · exact ⟨AccessFrame.refl t, rfl⟩
  · exact ⟨accessFrame_ioReadState p q s, ioReadState_dmem p q s⟩

theorem accessFrame_of_memWrite {ea v : Word} {s t : State} (h : memWrite ea v s = .ok t) : AccessFrame s t := by
  obtain ⟨a, _, rfl⟩ | ⟨p, q, _, _, rfl⟩ := memWrite_cases h
  · exact accessFrame_storeWord s a v
  · exact accessFrame_ioWriteState p q v s

/-- What LD does after its access, on the core's side (45_load_store.md R170). -/
theorem AccessFrame.loads {s u : State} (hu : AccessFrame s u) (hdmem : u.dmem = s.dmem) (d : RegNo) (v : Word) :
    Loads s (u.setX d v).freeNZ.advance d v := by
  obtain ⟨hregs, hflags, hh, hpc, ⟨hmd, hgie⟩, hcore, hparams, hpmem, hid⟩ := hu
  refine ⟨?_, fun k i hne => ?_, ?_, ?_, ?_, ?_, ⟨?_, ?_⟩, fun a => ?_, ?_, ?_, ?_, ?_⟩
  · rw [State.advance_rf, State.freeNZ_rf, ← hmd, State.rf_setX_same]
  · rw [State.advance_rf, State.freeNZ_rf, State.rf_setX, hmd, if_neg (by simpa using hne), hregs]
  all_goals simp [*]

/-- What ST does after its access, on the core's side (45_load_store.md R171). -/
theorem AccessFrame.storesOnly {s u : State} (hu : AccessFrame s u) : StoresOnly s u.advance := by
  obtain ⟨hregs, hflags, hh, hpc, hmode, hconstants⟩ := hu
  exact ⟨fun k i => (State.advance_rf u k i).trans (hregs k i), hflags, hh, congrArg (· + 1#12) hpc, hmode, hconstants⟩

/-! ## LD and ST in either form -/

@[simp] theorem exec_stForm (d b : RegNo) (o : Operand) (s : State) : exec (stForm d b o) s = storeOp d b o s := by
  cases o <;> rfl

theorem loadOp_of_memRead {d b : RegNo} {o : Operand} {s u : State} {v : Word}
    (h : memRead (s.x b + operandA s o) s = .ok (v, u)) : loadOp d b o s = .next (u.setX d v).freeNZ.advance := by
  simp only [loadOp, effectiveAddress, h]

theorem storeOp_of_memWrite {d b : RegNo} {o : Operand} {s u : State}
    (h : memWrite (s.x b + operandA s o) (s.x d) s = .ok u) : storeOp d b o s = .next u.advance := by
  simp only [storeOp, effectiveAddress, h]

/-! ## Data memory -/

/-- LD at a word of data memory (20_memory.md R64). -/
theorem exists_loads_of_data {s : State} (d : RegNo) {b : RegNo} {o : Operand} (h : (s.x b + operandA s o).toNat < 2048) :
    ∃ t, loadOp d b o s = .next t ∧ Loads s t d (dmemRead s.dmem ((s.x b + operandA s o).setWidth 11)) ∧
      SameDevices s t ∧ SameAnswers s t := by
  refine ⟨_, loadOp_of_dmem (eq_setWidth_of_lt h), (AccessFrame.refl s).loads rfl d _, ⟨?_, ?_⟩, ?_, ?_, ?_⟩
  all_goals simp

/-- ST at a word of data memory (20_memory.md R65). -/
theorem exists_storesOnly_of_data {s : State} (d : RegNo) {b : RegNo} {o : Operand}
    (h : (s.x b + operandA s o).toNat < 2048) :
    ∃ t, storeOp d b o s = .next t ∧ StoresOnly s t ∧ dmemRead t.dmem ((s.x b + operandA s o).setWidth 11) = s.x d ∧
      DataExcept ((s.x b + operandA s o).setWidth 11) s t ∧ SameOutside s t := by
  refine ⟨_, storeOp_of_dmem (eq_setWidth_of_lt h), (accessFrame_storeWord s _ _).storesOnly, ?_, fun a ha => ?_, rfl, rfl, rfl⟩
  · rw [State.advance_dmem, State.storeWord_dmem, dmemRead_dmemWrite]
    exact if_pos rfl
  · rw [State.advance_dmem, State.storeWord_dmem, dmemRead_dmemWrite]
    exact if_neg ha

/-- Settles O24: both forms are `loadOp` at a word of data memory. -/
theorem loadFromDataMemory : Obligations.LoadFromDataMemory := fun _ d _ a n =>
  ⟨exists_loads_of_data (o := .lit n) d, exists_loads_of_data (o := .reg a) d⟩

/-- Settles O25: both forms are `storeOp` at a word of data memory. -/
theorem storeToDataMemory : Obligations.StoreToDataMemory := fun _ d _ a n =>
  ⟨exists_storesOnly_of_data (o := .lit n) d, exists_storesOnly_of_data (o := .reg a) d⟩

/-- Settles O31: the word that O25 stores is the word that O24 loads. -/
theorem loadAfterStore : Obligations.LoadAfterStore := by
  intro s t u d b e c o p hdata hst haddr hld
  rw [exec_stForm] at hst
  rw [exec_ldForm] at hld
  obtain ⟨t', hst', _, hword, _⟩ := exists_storesOnly_of_data d hdata
  cases hst.symm.trans hst'
  rw [← haddr] at hdata hword
  obtain ⟨u', hld', ⟨hvalue, _, _, _, _, _, ⟨hmd, _⟩, _⟩, _⟩ := exists_loads_of_data e hdata
  cases hld.symm.trans hld'
  rw [State.x, hmd, hvalue, hword]

/-! ## Ports -/

/-- Settles O26: 32 port numbers on twelve cores. -/
theorem portsOfEachCore : Obligations.PortsOfEachCore := by
  unfold Obligations.PortsOfEachCore
  decide

theorem memRead_of_port {s : State} {ea : Word} {p : PortNo} {q : Port} (hea : classify s.params.addrDecode ea = .io p)
    (hq : portOf s.coreId p = some q) : memRead ea s = .ok (ioReadValue q s, ioReadState p q s) := by
  simp only [memRead, hea, hq]

theorem memWrite_of_port {s : State} {ea : Word} {p : PortNo} {q : Port} (hea : classify s.params.addrDecode ea = .io p)
    (hq : portOf s.coreId p = some q) (v : Word) : memWrite ea v s = .ok (ioWriteState p q v s) := by
  simp only [memWrite, hea, hq]

/-- Settles O27: an address of the window is its port, and the access there is `ioReadState`. -/
theorem loadFromPort : Obligations.LoadFromPort := by
  intro s d b o q hwindow hq
  have hread := memRead_of_port (classify_of_window s.params.addrDecode hwindow) hq
  refine ⟨_, (exec_ldForm d b o s).trans (loadOp_of_memRead hread),
    (accessFrame_ioReadState _ q s).loads (ioReadState_dmem _ q s) d _, ?_, ?_, ?_, ?_, fun hddr => ?_⟩
  · simp
  · simp [ioReadValue]
  · simp [ioReadState]
  · simp [ioReadState]
  · simp [ioReadState, portReadEffect_blockAnswers hddr]

/-- Settles O28: an address of the window is its port, and the access there is `ioWriteState`. -/
theorem storeToPort : Obligations.StoreToPort := by
  intro s d b o q hwindow hq
  have hwrite := memWrite_of_port (classify_of_window s.params.addrDecode hwindow) hq (s.x d)
  refine ⟨_, (exec_stForm d b o s).trans (storeOp_of_memWrite hwrite), (accessFrame_ioWriteState _ q _ s).storesOnly,
    fun a => ?_, rfl, ?_, ?_, ?_, ?_⟩
  · simp
  · simp
  all_goals simp [ioWriteState]

/-! ## Refusals, and undecoded addresses that act as others -/

theorem access_refused_of_no_port {s : State} {ea : Word} {p : PortNo} (hea : classify s.params.addrDecode ea = .io p)
    (hp : portOf s.coreId p = none) (v : Word) :
    memRead ea s = .error .noSuchPort ∧ memWrite ea v s = .error .noSuchPort := by
  simp only [memRead, memWrite, hea, hp, and_self]

theorem access_refused_of_undecoded {s : State} {ea : Word} (hea : classify s.params.addrDecode ea = .undecoded) (v : Word) :
    memRead ea s = .error .undecodedAddress ∧ memWrite ea v s = .error .undecodedAddress := by
  simp only [memRead, memWrite, hea, and_self]

/-- LD and ST are refused as their access is. -/
theorem forms_refused_of_access {s : State} {d b : RegNo} {o : Operand} {e : Refusal}
    (h : memRead (s.x b + operandA s o) s = .error e ∧ memWrite (s.x b + operandA s o) (s.x d) s = .error e) :
    exec (ldForm d b o) s = .refused e ∧ exec (stForm d b o) s = .refused e := by
  obtain ⟨hread, hwrite⟩ := h
  simp only [exec_ldForm, exec_stForm, loadOp, storeOp, effectiveAddress, hread, hwrite, and_self]

/-- Settles O29: LD and ST are refused as their access is, by the class of the address. -/
theorem accessesThatAreRefused : Obligations.AccessesThatAreRefused := by
  refine fun s d b o => ⟨fun hwindow hp => ?_, fun hrefuse hea => ?_⟩
  · exact forms_refused_of_access (access_refused_of_no_port (classify_of_window _ hwindow) hp _)
  · obtain ⟨hclass, _⟩ := classify_of_undecoded hea
    exact forms_refused_of_access (access_refused_of_undecoded (by rw [hrefuse, hclass]) _)

/-- An access depends on its address through the class alone. -/
theorem access_congr {s : State} {ea ea' : Word}
    (h : classify s.params.addrDecode ea = classify s.params.addrDecode ea') (v : Word) :
    memRead ea s = memRead ea' s ∧ memWrite ea v s = memWrite ea' v s := by
  simp only [memRead, memWrite, h, and_self]

theorem toNat_and_low12 (ea : Word) : (ea &&& 0xFFF#32).toNat = ea.toNat % 4096 := by
  rw [BitVec.toNat_and]
  exact Nat.and_two_pow_sub_one_eq_mod ea.toNat 12

theorem toNat_and_low11 (ea : Word) : (ea &&& 0x7FF#32).toNat = ea.toNat % 2048 := by
  rw [BitVec.toNat_and]
  exact Nat.and_two_pow_sub_one_eq_mod ea.toNat 11

/-- Settles O30: the undecoded address and the address of its low bits have the same class. -/
theorem aliasedAddresses : Obligations.AliasedAddresses := by
  intro s ea v hmode hea
  obtain ⟨_, hclass⟩ := classify_of_undecoded hea
  refine ⟨fun hbits => access_congr ?_ v, fun hbits => access_congr ?_ v⟩
  · have hwindow : InIoWindow (ea &&& 0xFFF#32) := by
      rw [InIoWindow, toNat_and_low12]
      omega
    have hport : (ea &&& 0xFFF#32).setWidth 5 = ea.setWidth 5 := by
      rw [← BitVec.toNat_inj, BitVec.toNat_setWidth, BitVec.toNat_setWidth, toNat_and_low12]
      omega
    rw [classify_of_window _ hwindow, hport, hmode, hclass, if_pos hbits]
  · have hdata : (ea &&& 0x7FF#32).toNat < 2048 := by
      rw [toNat_and_low11]
      omega
    have hword : (ea &&& 0x7FF#32).setWidth 11 = ea.setWidth 11 := by
      rw [← BitVec.toNat_inj, BitVec.toNat_setWidth, BitVec.toNat_setWidth, toNat_and_low11]
      omega
    rw [classify_of_data _ hdata, hword, hmode, hclass, if_neg hbits]

/-- Why an access is refused (20_memory.md R66, R68). -/
def AccessRefused (s : State) (ea : Word) (e : Refusal) : Prop :=
  (e = .undecodedAddress ∧ IsUndecoded ea ∧ s.params.addrDecode = .refuse) ∨
  (e = .noSuchPort ∧ 2048 ≤ ea.toNat ∧ ea.toNat / 256 % 16 = 15 ∧ portOf s.coreId (ea.setWidth 5) = none)

theorem accessRefused_of_no_port {s : State} {ea : Word} {p : PortNo} (hea : classify s.params.addrDecode ea = .io p)
    (hp : portOf s.coreId p = none) : AccessRefused s ea .noSuchPort := by
  obtain ⟨rfl, hbits⟩ := eq_of_classify_io hea
  exact .inr ⟨rfl, by omega, hbits, hp⟩

theorem accessRefused_of_undecoded {s : State} {ea : Word} (hea : classify s.params.addrDecode ea = .undecoded) :
    AccessRefused s ea .undecodedAddress := by
  obtain ⟨hrefuse, hundecoded⟩ := eq_of_classify_undecoded hea
  exact .inl ⟨rfl, hundecoded, hrefuse⟩

theorem accessRefused_of_memRead {s : State} {ea : Word} {e : Refusal} (h : memRead ea s = .error e) :
    AccessRefused s ea e := by
  unfold memRead at h
  split at h
  · cases h
  · next hea =>
    split at h
    · next hp => cases h; exact accessRefused_of_no_port hea hp
    · cases h
  · next hea => cases h; exact accessRefused_of_undecoded hea

theorem accessRefused_of_memWrite {s : State} {ea v : Word} {e : Refusal} (h : memWrite ea v s = .error e) :
    AccessRefused s ea e := by
  unfold memWrite at h
  split at h
  · cases h
  · next hea =>
    split at h
    · next hp => cases h; exact accessRefused_of_no_port hea hp
    · cases h
  · next hea => cases h; exact accessRefused_of_undecoded hea

theorem accessRefused_of_loadOp {s : State} {d b : RegNo} {o : Operand} {e : Refusal} (h : loadOp d b o s = .refused e) :
    AccessRefused s (effectiveAddress s b o) e := by
  unfold loadOp at h
  split at h
  · cases h
  · next hread => cases h; exact accessRefused_of_memRead hread

theorem accessRefused_of_storeOp {s : State} {d b : RegNo} {o : Operand} {e : Refusal} (h : storeOp d b o s = .refused e) :
    AccessRefused s (effectiveAddress s b o) e := by
  unfold storeOp at h
  split at h
  · cases h
  · next hwrite => cases h; exact accessRefused_of_memWrite hwrite

/-- Everything an instruction can be refused for. -/
theorem exec_refused_cases {i : Instr} {s : State} {e : Refusal} (h : exec i s = .refused e) :
    (∃ ea, accessAddress s i = some ea ∧ AccessRefused s ea e) ∨
    (e = .brBank0InInterruptMode ∧ s.intMd = true ∧ familyOf i = .brReg) ∨
    (e = .brReturnOutsideInterruptMode ∧ s.intMd = false ∧ familyOf i = .brRet) := by
  cases i with
  | ldRL d b n => exact .inl ⟨_, rfl, accessRefused_of_loadOp (o := .lit n) h⟩
  | ldRR d b a => exact .inl ⟨_, rfl, accessRefused_of_loadOp (o := .reg a) h⟩
  | stRL d b n => exact .inl ⟨_, rfl, accessRefused_of_storeOp (o := .lit n) h⟩
  | stRR d b a => exact .inl ⟨_, rfl, accessRefused_of_storeOp (o := .reg a) h⟩
  | brReg a =>
    simp only [exec, execBrReg] at h
    split at h
    · next hmd => cases h; exact .inr (.inl ⟨rfl, hmd, rfl⟩)
    · cases h
  | brRet a =>
    simp only [exec, execBrRet] at h
    split at h
    · cases h
    · next hmd => cases h; exact .inr (.inr ⟨rfl, Bool.eq_false_of_not_eq_true hmd, rfl⟩)
  | _ => cases h

/-- Settles O45: `exec_refused_cases`, with the two reasons of an access told apart. -/
theorem instructionsThatStop : Obligations.InstructionsThatStop := by
  intro i s e h
  obtain ⟨ea, hea, ⟨he, hundecoded, hrefuse⟩ | ⟨he, hlow, hbits, hp⟩⟩ | hbank | hret := exec_refused_cases h
  · exact .inl ⟨he, ea, hea, hundecoded, hrefuse⟩
  · exact .inr (.inl ⟨he, ea, hea, hlow, hbits, hp⟩)
  · exact .inr (.inr (.inl hbank))
  · exact .inr (.inr (.inr hret))

/-! ## Which accesses there are -/

theorem eq_stForm {i : Instr} (h : familyOf i = .st) : ∃ d b o, i = stForm d b o := by
  cases i with
  | stRL d b n => exact ⟨d, b, .lit n, rfl⟩
  | stRR d b a => exact ⟨d, b, .reg a, rfl⟩
  | _ => cases h

theorem accessAddress_stForm (s : State) (d b : RegNo) (o : Operand) :
    accessAddress s (stForm d b o) = some (effectiveAddress s b o) := by
  cases o <;> rfl

/-- Settles O51: no other instruction changes data memory, and ST changes a word exactly where its address reaches one. -/
theorem onlyStoreWritesData : Obligations.OnlyStoreWritesData := by
  refine fun i s t hexec => ⟨fun hst a => by rw [exec_dmem hst hexec], fun hst ea hea => ?_⟩
  obtain ⟨d, b, o, rfl⟩ := eq_stForm hst
  cases (accessAddress_stForm s d b o).symm.trans hea
  rw [exec_stForm] at hexec
  obtain ⟨u, hwrite, rfl⟩ := storeOp_cases hexec
  obtain ⟨a, hclass, rfl⟩ | ⟨p, q, hclass, _, rfl⟩ := memWrite_cases hwrite
  · obtain ⟨rfl, hbits⟩ := eq_of_classify_dmem hclass
    rw [if_neg hbits]
    intro c hc
    rw [State.advance_dmem, State.storeWord_dmem, dmemRead_dmemWrite, if_neg hc]
  · obtain ⟨_, hbits⟩ := eq_of_classify_io hclass
    rw [if_pos hbits]
    intro c
    simp

/-- No instruction but LD and ST touches a device or a port (20_memory.md R75). -/
theorem sameDevices_of_exec {i : Instr} {s t : State} (h : exec i s = .next t) (hld : familyOf i ≠ .ld)
    (hst : familyOf i ≠ .st) : SameDevices s t := by
  obtain ⟨d, r, f, _, rfl, _⟩ | ⟨d, x, y, _, _, rfl⟩ | ⟨_, _, b, off, rfl⟩ | ⟨_, _, p, rfl⟩ | ⟨a, _, rfl⟩ | ⟨k, _, rfl⟩ |
    ⟨a, _, _, rfl⟩ | ⟨_, _, _, _, _, hfam, _⟩ | ⟨_, _, _, _, hfam, _⟩ := exec_cases h
  · exact ⟨writeResultFlags_dev .., writeResultFlags_trace ..⟩
  · exact ⟨by simp, by simp⟩
  · rw [branchIf_eq]
    exact ⟨rfl, rfl⟩
  · exact ⟨by simp, by simp⟩
  · exact ⟨rfl, rfl⟩
  · exact ⟨rfl, rfl⟩
  · exact ⟨rfl, rfl⟩
  · exact absurd hfam hld
  · exact absurd hfam hst

/-- LD performs one access where its address reaches a port, and none elsewhere. -/
theorem access_of_loadOp {d b : RegNo} {o : Operand} {s t : State} (h : loadOp d b o s = .next t) :
    if (effectiveAddress s b o).toNat / 256 % 16 = 15 then
      ∃ q, portOf s.coreId ((effectiveAddress s b o).setWidth 5) = some q ∧
        t.trace = s.trace ++ [.read ((effectiveAddress s b o).setWidth 5) (portValue s.dev q s.ioAnswer)] ∧
        t.dev = (portReadEffect q (portValue s.dev q s.ioAnswer) s.ioAnswered).dev
    else SameDevices s t := by
  obtain ⟨v, u, hread, rfl⟩ := loadOp_cases h
  obtain ⟨a, hclass, _, rfl⟩ | ⟨p, q, hclass, hq, _, rfl⟩ := memRead_cases hread
  · obtain ⟨_, hbits⟩ := eq_of_classify_dmem hclass
    rw [if_neg hbits]
    exact ⟨by simp, by simp⟩
  · obtain ⟨rfl, hbits⟩ := eq_of_classify_io hclass
    rw [if_pos hbits]
    exact ⟨q, hq, by simp [ioReadValue], by simp⟩

/-- ST performs one access where its address reaches a port, and none elsewhere. -/
theorem access_of_storeOp {d b : RegNo} {o : Operand} {s t : State} (h : storeOp d b o s = .next t) :
    if (effectiveAddress s b o).toNat / 256 % 16 = 15 then
      ∃ q, portOf s.coreId ((effectiveAddress s b o).setWidth 5) = some q ∧
        t.trace = s.trace ++ [.write ((effectiveAddress s b o).setWidth 5) (s.x d)] ∧
        t.dev = (portWriteEffect q (s.x d) s).dev
    else SameDevices s t := by
  obtain ⟨u, hwrite, rfl⟩ := storeOp_cases h
  obtain ⟨a, hclass, rfl⟩ | ⟨p, q, hclass, hq, rfl⟩ := memWrite_cases hwrite
  · obtain ⟨_, hbits⟩ := eq_of_classify_dmem hclass
    rw [if_neg hbits]
    exact ⟨rfl, rfl⟩
  · obtain ⟨rfl, hbits⟩ := eq_of_classify_io hclass
    rw [if_pos hbits]
    exact ⟨q, hq, by simp, by simp⟩

/-- Settles O52: LD and ST access what their address reaches, and no other instruction touches a device. -/
theorem atMostOneAccess : Obligations.AtMostOneAccess :=
  ⟨fun _ _ _ h hld hst => sameDevices_of_exec h hld hst, fun s _ d b o =>
    ⟨fun h => access_of_loadOp (exec_ldForm d b o s ▸ h), fun h => access_of_storeOp (exec_stForm d b o s ▸ h)⟩⟩

end Sys2Proof.Machine
end

section
/-! PROOFS. The step: the boundary, the fetch, and interrupts (20_memory.md R76, 60_exceptions.md R205 to R212). -/

namespace Sys2Proof.Machine

/-! ## The boundary and the fetch -/

/-- The question at a boundary changes the oracle alone (60_exceptions.md R209). -/
theorem atBoundary_eq_setOracle (s : State) : ∃ o, atBoundary s = s.setOracle o := by
  unfold atBoundary State.irqAnswered
  split
  · split <;> exact ⟨_, rfl⟩
  · exact ⟨s.oracle, rfl⟩

theorem step_of_decode {s : State} {w : Code} {i : Instr} (hnone : interruptNow s = none) (hw : fetch s = some w)
    (hi : decode w = .ok i) : step s = exec i (atBoundary s) := by
  simp only [step, hnone, hw, hi]

theorem step_of_unassigned {s : State} {w : Code} {g : Unassigned} (hnone : interruptNow s = none) (hw : fetch s = some w)
    (hg : decode w = .error g) : step s = .refused (.unassignedEncoding g) := by
  simp only [step, hnone, hw, hg]

theorem step_of_unloaded {s : State} (hnone : interruptNow s = none) (hw : fetch s = none) :
    step s = .fault .unloadedProgramWord := by
  simp only [step, hnone, hw]

/-- Settles O5: the boundary changes the oracle at most, and the fetched word is decoded and executed. -/
theorem stepRunsDecodedInstruction : Obligations.StepRunsDecodedInstruction := fun s _ _ hnone hw hi =>
  ⟨step_of_decode hnone hw hi, atBoundary_eq_setOracle s, atBoundary_gie_clear⟩

/-- Settles O7: a loaded word is refused or executed, and no instruction faults (`exec_ne_fault`). -/
theorem stepStopsAtTheFetch : Obligations.StepStopsAtTheFetch := by
  refine fun s hnone => ⟨⟨fun ⟨e, he⟩ => ?_, fun hw => ⟨_, step_of_unloaded hnone hw⟩⟩, fun w g => step_of_unassigned hnone⟩
  by_contra hloaded
  obtain ⟨w, hw⟩ := Option.ne_none_iff_exists'.1 hloaded
  cases hdec : decode w with
  | error g => cases he.symm.trans (step_of_unassigned hnone hw hdec)
  | ok i => exact exec_ne_fault i _ e ((step_of_decode hnone hw hdec).symm.trans he)

/-! ## Interrupt entry and return -/

/-- Settles O6: the fields of the saved word are those that `savedFlags_savedWord` and `setWidth_savedWord` read back. -/
theorem stepTakesInterrupt : Obligations.StepTakesInterrupt := by
  intro s k hk
  have hword : (interruptEntry k (atBoundary s)).rf true 15#4 = savedWord s.flags ((atBoundary s).freeBits 16) s.pc := by
    simp [interruptEntry_rf]
  have hflags := savedFlags_savedWord s.flags ((atBoundary s).freeBits 16) s.pc
  have hpc : (savedWord s.flags ((atBoundary s).freeBits 16) s.pc).toNat % 4096 = s.pc.toNat := by
    rw [← BitVec.toNat_setWidth 12, setWidth_savedWord]
  refine ⟨_, step_of_interruptNow hk, by cases k <;> rfl, rfl, rfl, ?_, ?_, ?_, ?_, ?_, fun b i hne => ?_, ?_, ?_, fun a => ?_,
    ⟨?_, ?_⟩, ?_, ?_, ?_, ?_⟩
  · rw [hword]
    exact congrArg Flags.n hflags
  · rw [hword]
    exact congrArg Flags.z hflags
  · rw [hword]
    exact congrArg Flags.c hflags
  · rw [hword]
    exact congrArg Flags.v hflags
  · rw [hword, hpc]
  · rw [interruptEntry_rf, if_neg (by simpa using hne), atBoundary_rf]
  all_goals simp

/-- A source requests only with its enable bit set (60_exceptions.md R206, R209). -/
theorem irqEnabled_of_interruptNow {s : State} {k : IrqSource} (h : interruptNow s = some k) : irqEnabled s k = true := by
  obtain ⟨_, hfirst, _⟩ := interruptNow_eq_some h
  have hreq := firstRequest_requests hfirst
  rw [irqRequest, Bool.and_eq_true] at hreq
  obtain ⟨hen, _⟩ := hreq
  exact hen

theorem firstRequest_ne_none {s : State} {a : IrqAnswer} {k : IrqSource} (h : irqRequest s a k = true) :
    firstRequest s a ≠ none := by
  intro hnone
  unfold firstRequest at hnone
  split at hnone
  · cases hnone
  · next hinput =>
    split at hnone
    · cases hnone
    · next houtput =>
      split at hnone
      · cases hnone
      · next hrs232 =>
        cases k with
        | msgInput => exact hinput h
        | msgOutput => exact houtput h
        | rs232 => exact hrs232 h

/-- Settles O36: a source is taken only if its request, which its enable bit gates, is among those asked at this boundary. -/
theorem interruptNeedsEnable : Obligations.InterruptNeedsEnable := by
  refine fun s k => ⟨fun h => ?_, fun hgie hreq hnow => ?_, fun hlater => ?_⟩
  · obtain ⟨hgie, _, _⟩ := interruptNow_eq_some h
    have hen := irqEnabled_of_interruptNow h
    refine ⟨hgie, ?_, ?_, ?_⟩ <;> rintro rfl
    · exact hen
    · exact hen
    · simpa [irqEnabled] using hen
  · obtain ⟨j, hj⟩ := Option.ne_none_iff_exists'.1 (firstRequest_ne_none hreq)
    simp [interruptNow, hgie, hj, hnow]
  · by_contra h
    obtain ⟨j, hj⟩ := Option.ne_none_iff_exists'.1 h
    obtain ⟨_, _, hnow⟩ := interruptNow_eq_some hj
    rw [hlater] at hnow
    cases hnow

/-- Settles O37: the return reads back from `RF[1][15]` what the entry saved there. -/
theorem returnUndoesEntry : Obligations.ReturnUndoesEntry := by
  intro s t u k hk hmain hstep hmd hword
  cases (step_of_interruptNow hk).symm.trans hstep
  obtain ⟨hgie, _, _⟩ := interruptNow_eq_some hk
  rw [interruptEntry_rf, if_pos ⟨rfl, rfl⟩, atBoundary_flags, atBoundary_pc] at hword
  refine ⟨_, exec_brRet_of_handler hmd 15#4, ?_, ?_, hmain.symm, hgie.symm⟩
  · rw [interruptReturn_pc, hword, setWidth_savedWord]
  · rw [interruptReturn_flags, hword, savedFlags_savedWord]

/-- Settles O59: the fields of `State.reset`, and its 32 registers. -/
theorem stateAtStart : Obligations.StateAtStart := by
  refine ⟨rfl, rfl, rfl, rfl, rfl, rfl, ?_, rfl, rfl, rfl, rfl⟩
  decide

end Sys2Proof.Machine
end

section
/-! PROOFS. What every instruction and every step keeps: constants, registers, flags, mode, devices and the invariant
(10_state.md R22 to R52, 20_memory.md R71, R85, 60_exceptions.md R227). -/

namespace Sys2Proof.Machine

/-! ## Frames of every instruction, by the shapes of `exec_cases` -/

/-- No instruction changes the core's number, the parameters, program memory or the netNode's id. -/
theorem sameConstants_of_exec {i : Instr} {s t : State} (h : exec i s = .next t) : SameConstants s t := by
  obtain ⟨d, r, f, _, rfl, _⟩ | ⟨d, x, y, _, _, rfl⟩ | ⟨_, _, b, off, rfl⟩ | ⟨_, _, p, rfl⟩ | ⟨a, _, rfl⟩ | ⟨k, _, rfl⟩ |
    ⟨a, _, _, rfl⟩ | ⟨d, b, o, v, u, _, _, _, hread, rfl⟩ | ⟨d, b, o, u, _, _, _, hwrite, rfl⟩ := exec_cases h
  · obtain ⟨_, _, _, _, _, _, _, _, hconstants⟩ := computes_writeResultFlags d r f s
    exact hconstants
  · simp [SameConstants]
  · rw [branchIf_eq]
    exact ⟨rfl, rfl, rfl, rfl⟩
  · simp [SameConstants]
  · exact ⟨rfl, rfl, rfl, rfl⟩
  · exact ⟨rfl, rfl, rfl, rfl⟩
  · exact ⟨rfl, rfl, rfl, rfl⟩
  · obtain ⟨hu, hdmem⟩ := accessFrame_of_memRead hread
    obtain ⟨_, _, _, _, _, _, _, _, hconstants⟩ := hu.loads hdmem d v
    exact hconstants
  · exact (accessFrame_of_memWrite hwrite).constants

/-- Settles O48, by the shapes of `exec_cases`: each writes the register that `destOf` names, or none. -/
theorem onlyDestinationIsWritten : Obligations.OnlyDestinationIsWritten := by
  intro i s t h
  obtain ⟨d, r, f, hd, rfl, _⟩ | ⟨d, x, y, hd, _, rfl⟩ | ⟨_, hd, b, off, rfl⟩ | ⟨_, hd, p, rfl⟩ | ⟨a, rfl, rfl⟩ | ⟨k, rfl, rfl⟩ |
    ⟨a, rfl, _, rfl⟩ | ⟨d, b, o, v, u, _, hd, _, hread, rfl⟩ | ⟨d, b, o, u, _, hd, _, hwrite, rfl⟩ := exec_cases h
  · obtain ⟨_, hregs, _⟩ := computes_writeResultFlags d r f s
    rw [hd]
    exact hregs
  · rw [hd]
    intro k j hne
    rw [State.advance_rf, State.setH_rf, State.rf_setX, if_neg (by simpa using hne)]
  · rw [hd, branchIf_eq]
    exact State.setPc_rf s _
  · obtain ⟨_, hregs, _⟩ := links_freeNZ s p
    rw [hd]
    exact hregs
  · exact State.setPc_rf s _
  · intro b j
    simp
  · exact interruptReturn_rf a s
  · obtain ⟨hu, hdmem⟩ := accessFrame_of_memRead hread
    obtain ⟨_, hregs, _⟩ := hu.loads hdmem d v
    rw [hd]
    exact hregs
  · obtain ⟨hregs, _⟩ := (accessFrame_of_memWrite hwrite).storesOnly
    rw [hd]
    exact hregs

/-- Settles O49, by the shapes of `exec_cases`: only results, calls, LD and the return write a flag. -/
theorem flagWriters : Obligations.FlagWriters := by
  intro i s t h
  obtain ⟨d, r, f, _, rfl, hfam, _, _, hc, hv⟩ | ⟨d, x, y, _, hfam, rfl⟩ | ⟨hfam, _, b, off, rfl⟩ | ⟨hfam, _, p, rfl⟩ |
    ⟨a, rfl, rfl⟩ | ⟨k, rfl, rfl⟩ | ⟨a, rfl, _, rfl⟩ | ⟨d, b, o, v, u, hfam, _, _, hread, rfl⟩ |
    ⟨d, b, o, u, hfam, _, _, hwrite, rfl⟩ := exec_cases h
  · have hsubV : [Family.add, Family.sub] ⊆ [Family.add, Family.sub, Family.brRet] := by decide
    have hsubC : [Family.add, Family.sub, Family.ror] ⊆ [Family.add, Family.sub, Family.ror, Family.brRet] := by decide
    have hdisjoint : ∀ fam ∈ [Family.logic, .add, .sub, .not, .ldh, .ldc, .lit, .ror],
        fam ∉ [Family.mul, .st, .bc, .brReg, .brMode] := by decide
    rw [writeResultFlags_flags]
    refine ⟨fun hne => hv ?_, fun hne => hc ?_, fun hmem => ?_⟩
    · exact fun hmem => hne (hsubV hmem)
    · exact fun hmem => hne (hsubC hmem)
    · exact (hdisjoint _ hfam hmem).elim
  · simp
  · simp [branchIf_eq]
  · rcases hfam with hfam | hfam <;> simp [hfam]
  · simp
  · simp
  · simp [familyOf]
  · obtain ⟨hu, hdmem⟩ := accessFrame_of_memRead hread
    obtain ⟨_, _, hc, hv, _⟩ := hu.loads hdmem d v
    exact ⟨fun _ => hv, fun _ => hc, by simp [hfam]⟩
  · have hflags : u.advance.flags = s.flags := (accessFrame_of_memWrite hwrite).flags
    exact ⟨fun _ => congrArg Flags.v hflags, fun _ => congrArg Flags.c hflags, fun _ => hflags⟩

/-- The mode after an instruction: as before, but for the two forms of BR that write it (10_state.md R40, R41). -/
theorem mode_of_exec {i : Instr} {s t : State} (h : exec i s = .next t) :
    SameMode s t ∨ (∃ k, i = .brMode k ∧ t.intMd = k.getLsbD 1 ∧ t.gie = k.getLsbD 0) ∨
      (∃ a, i = .brRet a ∧ t.intMd = false ∧ t.gie = true) := by
  obtain ⟨d, r, f, _, rfl, _⟩ | ⟨d, x, y, _, _, rfl⟩ | ⟨_, _, b, off, rfl⟩ | ⟨_, _, p, rfl⟩ | ⟨a, _, rfl⟩ | ⟨k, hk, rfl⟩ |
    ⟨a, ha, _, rfl⟩ | ⟨d, b, o, v, u, _, _, _, hread, rfl⟩ | ⟨d, b, o, u, _, _, _, hwrite, rfl⟩ := exec_cases h
  · exact .inl ⟨by simp, by simp⟩
  · exact .inl ⟨by simp, by simp⟩
  · exact .inl (by rw [branchIf_eq]; exact ⟨rfl, rfl⟩)
  · exact .inl ⟨by simp, by simp⟩
  · exact .inl ⟨rfl, rfl⟩
  · exact .inr (.inl ⟨k, hk, rfl, rfl⟩)
  · exact .inr (.inr ⟨a, ha, rfl, rfl⟩)
  · obtain ⟨hu, hdmem⟩ := accessFrame_of_memRead hread
    obtain ⟨_, _, _, _, _, _, hmode, _⟩ := hu.loads hdmem d v
    exact .inl hmode
  · exact .inl (accessFrame_of_memWrite hwrite).mode

/-! ## Every step -/

/-- Settles O40: neither an interrupt entry nor an instruction changes a constant. -/
theorem stepKeepsConstants : Obligations.StepKeepsConstants := by
  intro s t hstep
  obtain ⟨k, _, rfl⟩ | ⟨i, _, hexec⟩ := step_cases hstep
  · simp [SameConstants]
  · simpa [SameConstants] using sameConstants_of_exec hexec

/-- Settles O47: a step that changes the mode is an entry, or one of the two forms that `mode_of_exec` names. -/
theorem modeWriters : Obligations.ModeWriters := by
  intro s t hstep hchanged
  obtain ⟨k, hk, rfl⟩ | ⟨i, hruns, hexec⟩ := step_cases hstep
  · exact .inl ⟨k, hk, rfl, rfl⟩
  · obtain ⟨hmd, hgie⟩ | ⟨k, rfl, hmode⟩ | ⟨a, rfl, hmode⟩ := mode_of_exec hexec
    · rw [atBoundary_intMd] at hmd
      rw [atBoundary_gie] at hgie
      exact absurd hchanged (by simp [hmd, hgie])
    · exact .inr (.inl ⟨k, hruns, hmode⟩)
    · exact .inr (.inr ⟨a, hruns, hmode⟩)

/-- What an instruction did to the devices: nothing, or the effect of one access at a port its core has. -/
theorem dev_of_exec {i : Instr} {s t : State} (h : exec i s = .next t) :
    t.dev = s.dev ∨
    (∃ q w, corePort s.coreId q = true ∧ t.dev = (portReadEffect q w s.ioAnswered).dev) ∨
    (∃ q v, corePort s.coreId q = true ∧ t.dev = (portWriteEffect q v s).dev) := by
  have hcore {p : PortNo} {q : Port} (hq : portOf s.coreId p = some q) : corePort s.coreId q = true := by
    unfold portOf at hq
    split at hq
    · cases hq
    · split at hq
      · next hhas => cases hq; exact hhas
      · cases hq
  by_cases hld : familyOf i = .ld
  · obtain ⟨d, b, o, rfl⟩ := eq_ldForm hld
    have haccess := access_of_loadOp (exec_ldForm d b o s ▸ h)
    split at haccess
    · obtain ⟨q, hq, _, hdev⟩ := haccess
      exact .inr (.inl ⟨q, _, hcore hq, hdev⟩)
    · obtain ⟨hdev, _⟩ := haccess
      exact .inl hdev
  · by_cases hst : familyOf i = .st
    · obtain ⟨d, b, o, rfl⟩ := eq_stForm hst
      have haccess := access_of_storeOp (exec_stForm d b o s ▸ h)
      split at haccess
      · obtain ⟨q, hq, _, hdev⟩ := haccess
        exact .inr (.inr ⟨q, _, hcore hq, hdev⟩)
      · obtain ⟨hdev, _⟩ := haccess
        exact .inl hdev
    · obtain ⟨hdev, _⟩ := sameDevices_of_exec h hld hst
      exact .inl hdev

/-! ## Absent devices (20_memory.md R71) -/

/-- The devices that a core does not have are as before. -/
def AbsentDevicesKept (core : Fin 12) (d e : Devices) : Prop :=
  (core ≠ 6 → e.ddr2 = d.ddr2) ∧
  (core ≠ 11 → e.rs232 = d.rs232 ∧ e.timer = d.timer ∧ e.lcd = d.lcd ∧ e.leds = d.leds ∧ e.switches = d.switches)

theorem AbsentDevicesKept.refl (core : Fin 12) (d : Devices) : AbsentDevicesKept core d d :=
  ⟨fun _ => rfl, fun _ => ⟨rfl, rfl, rfl, rfl, rfl⟩⟩

/-- A change of the netNode, which every core has. -/
theorem absentDevicesKept_netNode (core : Fin 12) (d : Devices) (n : NetNode) :
    AbsentDevicesKept core d { d with netNode := n } :=
  ⟨fun _ => rfl, fun _ => ⟨rfl, rfl, rfl, rfl, rfl⟩⟩

/-- A change that leaves the DDR2 interface alone, on the core that has the other devices. -/
theorem absentDevicesKept_of_eleven {core : Fin 12} {d e : Devices} (hcore : core = 11) (h : e.ddr2 = d.ddr2) :
    AbsentDevicesKept core d e :=
  ⟨fun _ => h, fun hne => absurd hcore hne⟩

/-- A change of the DDR2 interface, on the core that has it. -/
theorem absentDevicesKept_ddr2 {core : Fin 12} (d : Devices) (x : Ddr2) (hcore : core = 6) :
    AbsentDevicesKept core d { d with ddr2 := x } :=
  ⟨fun hne => absurd hcore hne, fun _ => ⟨rfl, rfl, rfl, rfl, rfl⟩⟩

theorem absentDevicesKept_portReadEffect {core : Fin 12} {q : Port} (h : corePort core q = true) (w : Word) (s : State) :
    AbsentDevicesKept core s.dev (portReadEffect q w s).dev := by
  cases q with
  | netData =>
    simp only [portReadEffect]
    split <;> exact absentDevicesKept_netNode ..
  | netCommand => exact absentDevicesKept_netNode ..
  | ddrData =>
    simp only [portReadEffect]
    split <;> exact absentDevicesKept_ddr2 _ _ (of_decide_eq_true h)
  | ddrCommand => exact absentDevicesKept_ddr2 _ _ (of_decide_eq_true h)
  | rsData =>
    simp only [portReadEffect]
    split <;> exact absentDevicesKept_of_eleven (of_decide_eq_true h) rfl
  | rsCommand | timerData | timerCommand | lcdData | lcdCommand | ledData | switchInput =>
    exact absentDevicesKept_of_eleven (of_decide_eq_true h) rfl

theorem absentDevicesKept_portWriteEffect {core : Fin 12} {q : Port} (h : corePort core q = true) (v : Word) (s : State) :
    AbsentDevicesKept core s.dev (portWriteEffect q v s).dev := by
  cases q with
  | netData =>
    simp only [portWriteEffect]
    split <;> exact absentDevicesKept_netNode ..
  | netCommand => exact absentDevicesKept_netNode ..
  | ddrData | ddrCommand =>
    simp only [portWriteEffect]
    split <;> exact absentDevicesKept_ddr2 _ _ (of_decide_eq_true h)
  | rsData =>
    simp only [portWriteEffect]
    split <;> exact absentDevicesKept_of_eleven (of_decide_eq_true h) rfl
  | rsCommand | timerData | timerCommand | lcdData | lcdCommand | ledData | switchInput =>
    exact absentDevicesKept_of_eleven (of_decide_eq_true h) rfl

/-- Settles O53: an access reaches a device only through a port that the core has (`dev_of_exec`). -/
theorem absentDevicesAreUntouched : Obligations.AbsentDevicesAreUntouched := by
  intro s t hstep
  suffices h : AbsentDevicesKept s.coreId s.dev t.dev from h
  obtain ⟨k, _, rfl⟩ | ⟨i, _, hexec⟩ := step_cases hstep
  · rw [interruptEntry_dev, atBoundary_dev]
    exact .refl ..
  · have hcore := atBoundary_coreId s
    have hdev := atBoundary_dev s
    generalize atBoundary s = u at hexec hcore hdev
    rw [← hcore, ← hdev]
    obtain ht | ⟨q, w, hq, ht⟩ | ⟨q, v, hq, ht⟩ := dev_of_exec hexec <;> rw [ht]
    · exact .refl ..
    · rw [← State.ioAnswered_dev u]
      exact absentDevicesKept_portReadEffect hq w u.ioAnswered
    · exact absentDevicesKept_portWriteEffect hq v u

/-! ## The invariant (10_state.md R45, R46, 60_exceptions.md R227) -/

/-- Where there is one buffer address register its two names read alike: `BufAddrOk` of the two pieces it looks at. -/
def SharedAddrOk (m : BufAddr) (n : NetNode) : Prop := m = .shared → n.inAddr = n.outAddr

theorem sharedAddrOk_setInAddr (m : BufAddr) (n : NetNode) (a : BitVec 6) : SharedAddrOk m (n.setInAddr m a) := by
  cases m with
  | shared => exact fun _ => rfl
  | separate => nofun

theorem sharedAddrOk_setOutAddr (m : BufAddr) (n : NetNode) (a : BitVec 6) : SharedAddrOk m (n.setOutAddr m a) := by
  cases m with
  | shared => exact fun _ => rfl
  | separate => nofun

theorem SharedAddrOk.command {m : BufAddr} {n : NetNode} (h : SharedAddrOk m n) (v : Word) : SharedAddrOk m (n.command v) := by
  intro hm
  simp only [NetNode.command, h hm]

theorem sharedAddrOk_portReadEffect {s : State} (h : SharedAddrOk s.params.bufAddr s.dev.netNode) (q : Port) (w : Word) :
    SharedAddrOk s.params.bufAddr (portReadEffect q w s).dev.netNode := by
  cases q with
  | netData =>
    simp only [portReadEffect]
    split <;> exact sharedAddrOk_setInAddr s.params.bufAddr _ _
  | rsData | ddrData =>
    simp only [portReadEffect]
    split <;> exact h
  | netCommand | rsCommand | timerData | timerCommand | lcdData | lcdCommand | ddrCommand | ledData | switchInput => exact h

theorem sharedAddrOk_portWriteEffect {s : State} (h : SharedAddrOk s.params.bufAddr s.dev.netNode) (q : Port) (v : Word) :
    SharedAddrOk s.params.bufAddr (portWriteEffect q v s).dev.netNode := by
  cases q with
  | netData =>
    simp only [portWriteEffect]
    split <;> exact sharedAddrOk_setOutAddr s.params.bufAddr _ _
  | netCommand => exact h.command v
  | rsData | ddrData | ddrCommand =>
    simp only [portWriteEffect]
    split <;> exact h
  | rsCommand | timerData | timerCommand | lcdData | lcdCommand | ledData | switchInput => exact h

/-- Every instruction keeps the two names of a shared buffer address register alike. -/
theorem bufAddrOk_of_exec {i : Instr} {s t : State} (h : exec i s = .next t) (hs : BufAddrOk s) : BufAddrOk t := by
  obtain ⟨_, hparams, _⟩ := sameConstants_of_exec h
  suffices hok : SharedAddrOk s.params.bufAddr t.dev.netNode by
    rw [BufAddrOk, hparams]
    exact hok
  obtain hdev | ⟨q, w, _, hdev⟩ | ⟨q, v, _, hdev⟩ := dev_of_exec h <;> rw [hdev]
  · exact hs
  · rw [← State.ioAnswered_params s]
    refine sharedAddrOk_portReadEffect ?_ q w
    rw [State.ioAnswered_params, State.ioAnswered_dev]
    exact hs
  · exact sharedAddrOk_portWriteEffect hs q v

/-- Every instruction keeps the canonical forms: ST lists its word inside data memory, and nothing else is listed. -/
theorem memoriesOk_of_exec {i : Instr} {s t : State} (h : exec i s = .next t) (hs : MemoriesOk s) : MemoriesOk t := by
  obtain ⟨hp, hd⟩ := hs
  refine ⟨by rw [exec_pmem h]; exact hp, ?_⟩
  by_cases hst : familyOf i = .st
  · obtain ⟨d, b, o, rfl⟩ := eq_stForm hst
    rw [exec_stForm] at h
    obtain ⟨u, hwrite, rfl⟩ := storeOp_cases h
    obtain ⟨a, _, rfl⟩ | ⟨p, q, _, _, rfl⟩ := memWrite_cases hwrite
    · exact dmemWrite_keeps_wf hd a _
    · rw [State.advance_dmem, ioWriteState_dmem]
      exact hd
  · rw [exec_dmem hst h]
    exact hd

/-- Settles O38: nothing is listed at reset, and both address registers are 0. -/
theorem resetMeetsInvariant : Obligations.ResetMeetsInvariant := ⟨⟨rfl, rfl⟩, fun _ => rfl⟩

/-- Settles O39: an entry touches none of it, and every instruction keeps each half. -/
theorem stepKeepsInvariant : Obligations.StepKeepsInvariant := by
  rintro s t ⟨hmem, hbuf⟩ hstep
  have hmem' : MemoriesOk (atBoundary s) := by simpa [MemoriesOk] using hmem
  have hbuf' : BufAddrOk (atBoundary s) := by simpa [BufAddrOk] using hbuf
  obtain ⟨k, _, rfl⟩ | ⟨i, _, hexec⟩ := step_cases hstep
  · exact ⟨hmem', hbuf'⟩
  · exact ⟨memoriesOk_of_exec hexec hmem', bufAddrOk_of_exec hexec hbuf'⟩

end Sys2Proof.Machine
end

section
/-! PROOFS. Who reads the flags (10_state.md R37). -/

namespace Sys2Proof.Machine

section
variable (s : State) (f : Flags)

/-! ## Updates elsewhere commute with a change of the flags -/

theorem setRf_setFlags (k : Bool) (i : RegNo) (v : Word) : (s.setFlags f).setRf k i v = (s.setRf k i v).setFlags f := by
  cases k <;> rfl

theorem setX_setFlags (i : RegNo) (v : Word) : (s.setFlags f).setX i v = (s.setX i v).setFlags f :=
  setRf_setFlags s f s.intMd i v

theorem ioAnswered_setFlags : (s.setFlags f).ioAnswered = s.ioAnswered.setFlags f := by
  unfold State.ioAnswered
  rw [State.setFlags_oracle]
  split <;> rfl

theorem portReadEffect_setFlags (q : Port) (w : Word) :
    portReadEffect q w (s.setFlags f) = (portReadEffect q w s).setFlags f := by
  cases q with
  | netData | rsData | ddrData =>
    simp only [portReadEffect, apply_ite (fun t : State => t.setFlags f)]
    rfl
  | netCommand | rsCommand | timerData | timerCommand | lcdData | lcdCommand | ddrCommand | ledData | switchInput => rfl

theorem portWriteEffect_setFlags (q : Port) (v : Word) :
    portWriteEffect q v (s.setFlags f) = (portWriteEffect q v s).setFlags f := by
  cases q with
  | netData | rsData | ddrData | ddrCommand =>
    simp only [portWriteEffect, apply_ite (fun t : State => t.setFlags f)]
    rfl
  | netCommand | rsCommand | timerData | timerCommand | lcdData | lcdCommand | ledData | switchInput => rfl

theorem ioReadState_setFlags (p : PortNo) (q : Port) : ioReadState p q (s.setFlags f) = (ioReadState p q s).setFlags f := by
  rw [ioReadState, ioAnswered_setFlags, portReadEffect_setFlags]
  rfl

theorem ioWriteState_setFlags (p : PortNo) (q : Port) (v : Word) :
    ioWriteState p q v (s.setFlags f) = (ioWriteState p q v s).setFlags f := by
  rw [ioWriteState, portWriteEffect_setFlags]
  rfl

theorem memRead_setFlags (ea : Word) :
    memRead ea (s.setFlags f) = (memRead ea s).map fun a => (a.1, a.2.setFlags f) := by
  simp only [memRead, State.setFlags_params, State.setFlags_coreId]
  cases classify s.params.addrDecode ea with
  | dmem a => rfl
  | undecoded => rfl
  | io p =>
    dsimp only
    cases portOf s.coreId p with
    | none => rfl
    | some q =>
      simp only [ioReadState_setFlags]
      rfl

theorem memWrite_setFlags (ea v : Word) : memWrite ea v (s.setFlags f) = (memWrite ea v s).map fun t => t.setFlags f := by
  simp only [memWrite, State.setFlags_params, State.setFlags_coreId]
  cases classify s.params.addrDecode ea with
  | dmem a => rfl
  | undecoded => rfl
  | io p =>
    dsimp only
    cases portOf s.coreId p with
    | none => rfl
    | some q =>
      simp only [ioWriteState_setFlags]
      rfl

/-! ## The instructions that do not look at the flags -/

/-- A result is the same, the flags apart, whatever the flags were and become. -/
theorem writeResultFlags_setFlags (d : RegNo) (r : Word) (g g' : Flags) :
    (writeResultFlags d r g (s.setFlags f)).setFlags f = (writeResultFlags d r g' s).setFlags f := by
  rw [writeResultFlags, setX_setFlags]
  rfl

theorem mulOp_setFlags (d b : RegNo) (o : Operand) :
    (mulOp d b o (s.setFlags f)).setFlags f = (mulOp d b o s).setFlags f := by
  rw [mulOp, setX_setFlags]
  rfl

theorem link_setFlags (v : Word) (p : PAddr) :
    (((s.setFlags f).setX 15#4 v).setPc p).freeNZ.setFlags f = ((s.setX 15#4 v).setPc p).freeNZ.setFlags f := by
  rw [setX_setFlags]
  rfl

theorem loadOp_setFlags (d b : RegNo) (o : Operand) :
    onNext (fun t => t.setFlags f) (loadOp d b o (s.setFlags f)) = onNext (fun t => t.setFlags f) (loadOp d b o s) := by
  have hea : effectiveAddress (s.setFlags f) b o = effectiveAddress s b o := rfl
  rw [loadOp, loadOp, hea, memRead_setFlags]
  cases memRead (effectiveAddress s b o) s with
  | error e => rfl
  | ok a =>
    obtain ⟨v, u⟩ := a
    simp only [Except.map, setX_setFlags]
    rfl

theorem storeOp_setFlags (d b : RegNo) (o : Operand) :
    onNext (fun t => t.setFlags f) (storeOp d b o (s.setFlags f)) = onNext (fun t => t.setFlags f) (storeOp d b o s) := by
  have hea : effectiveAddress (s.setFlags f) b o = effectiveAddress s b o := rfl
  have hx : (s.setFlags f).x d = s.x d := rfl
  rw [storeOp, storeOp, hea, hx, memWrite_setFlags]
  cases memWrite (effectiveAddress s b o) (s.x d) s with
  | error e => rfl
  | ok u => rfl

/-- No instruction but Bc and LDC looks at the flags. -/
theorem exec_setFlags (i : Instr) (hbc : familyOf i ≠ .bc) (hldc : familyOf i ≠ .ldc) :
    onNext (fun t => t.setFlags f) (exec i (s.setFlags f)) = onNext (fun t => t.setFlags f) (exec i s) := by
  cases i with
  | andRL | andRR | bicRL | bicRR | orRL | orRR | xorRL | xorRR | addRL | addRR | subRL | subRR | notRL | notRR | ldh | lit
  | rorRL | rorRR => exact congrArg Host.Outcome.next (writeResultFlags_setFlags ..)
  | mulRL | mulRR => exact congrArg Host.Outcome.next (mulOp_setFlags ..)
  | blr | bl => exact congrArg Host.Outcome.next (link_setFlags ..)
  | brReg a =>
    cases hmd : s.intMd with
    | false =>
      rw [exec_brReg_of_main hmd, exec_brReg_of_main (s := s.setFlags f) hmd]
      rfl
    | true => rw [exec_brReg_of_handler hmd, exec_brReg_of_handler (s := s.setFlags f) hmd]
  | brRet a =>
    cases hmd : s.intMd with
    | false => rw [exec_brRet_of_main hmd, exec_brRet_of_main (s := s.setFlags f) hmd]
    | true =>
      rw [exec_brRet_of_handler hmd, exec_brRet_of_handler (s := s.setFlags f) hmd]
      rfl
  | brMode => rfl
  | ldRL | ldRR => exact loadOp_setFlags ..
  | stRL | stRR => exact storeOp_setFlags ..
  | ldc => exact absurd rfl hldc
  | beq | bneq | bcs | bcc | bn | bnn | bv | bnv | bhi | bls | bgeq | blss | bgtr | bleq | bt | bf => exact absurd rfl hbc

/-! ## LDC and Bc -/

/-- LDC looks at C alone. -/
theorem exec_ldc_setFlags (d : RegNo) (hc : f.c = s.flags.c) :
    onNext (fun t => t.setFlags f) (exec (.ldc d) (s.setFlags f)) = onNext (fun t => t.setFlags f) (exec (.ldc d) s) := by
  have hword : (BitVec.ofBool (s.setFlags f).flags.c).setWidth 32 = ((BitVec.ofBool s.flags.c).setWidth 32 : Word) := by
    rw [State.setFlags_flags, hc]
  simp only [exec, execLdc, hword]
  exact congrArg Host.Outcome.next (writeResultFlags_setFlags ..)

/-- Bc looks at its condition alone. -/
theorem bc_setFlags {c : Cond} (h : condHolds c f = condHolds c s.flags) (off : BitVec 10) :
    (.next (branchIf (condHolds c (s.setFlags f).flags) off (s.setFlags f)) : Result) =
      onNext (fun t => t.setFlags f) (.next (branchIf (condHolds c s.flags) off s)) := by
  rw [State.setFlags_flags, h, branchIf_eq, branchIf_eq]
  rfl

end

theorem condHolds_ls_eq_not_hi (f : Flags) : condHolds .ls f = !condHolds .hi f := by simp [condHolds]

/-- Settles O43: `exec_setFlags` for all but LDC and Bc, and these through C and through the condition. -/
theorem flagsAreReadOnlyBy : Obligations.FlagsAreReadOnlyBy := by
  refine ⟨fun i s f hbc hldc => exec_setFlags s f i hbc hldc, fun d s f hc => exec_ldc_setFlags s f d hc,
    fun s f off => ⟨fun h => ?_, fun h => ?_, fun h => ?_, fun h => ?_, fun h => ?_, fun h => ?_, fun h => ?_, ?_, ?_⟩,
    fun s d => ?_, fun s off => ⟨?_, ?_, ?_, ?_⟩, fun k s => ?_⟩
  · exact ⟨bc_setFlags s f (c := .eq) h off, bc_setFlags s f (c := .neq) (congrArg not h) off⟩
  · exact ⟨bc_setFlags s f (c := .cs) h off, bc_setFlags s f (c := .cc) (congrArg not h) off⟩
  · exact ⟨bc_setFlags s f (c := .n) h off, bc_setFlags s f (c := .nn) (congrArg not h) off⟩
  · exact ⟨bc_setFlags s f (c := .v) h off, bc_setFlags s f (c := .nv) (congrArg not h) off⟩
  · have hhi : condHolds .hi f = condHolds .hi s.flags := by rw [condHolds_hi, condHolds_hi, h]
    have hls : condHolds .ls f = condHolds .ls s.flags := by rw [condHolds_ls_eq_not_hi, condHolds_ls_eq_not_hi, hhi]
    exact ⟨bc_setFlags s f hhi off, bc_setFlags s f hls off⟩
  · exact ⟨bc_setFlags s f (c := .geq) (congrArg not h) off, bc_setFlags s f (c := .lss) h off⟩
  · exact ⟨bc_setFlags s f (c := .gtr) (congrArg not h) off, bc_setFlags s f (c := .leq) h off⟩
  · exact bc_setFlags s f (c := .always) rfl off
  · exact bc_setFlags s f (c := .never) rfl off
  · obtain ⟨t, hexec, hrf, _, _, _, _, ⟨hmd, _⟩, _⟩ := ldcResult s d
    exact ⟨t, hexec, by rw [State.x, hmd, hrf]⟩
  · exact ⟨_, rfl, branches_branchIf s _ off⟩
  · exact ⟨_, rfl, branches_branchIf s _ off⟩
  · exact ⟨_, rfl, branches_branchIf s _ off⟩
  · exact ⟨_, rfl, branches_branchIf s _ off⟩
  · rw [interruptEntry_rf, if_pos ⟨rfl, rfl⟩, savedFlags_savedWord]

end Sys2Proof.Machine
end

section
/-! PROOFS. The registers of the devices (60_exceptions.md R224 to R242). -/

namespace Sys2Proof.Machine

/-! ## netNode: the command register (60_exceptions.md R226) -/

/-- Each bit of a read of the command register: the enables, the id, and the answer from outside. -/
theorem NetNode.getLsbD_status (n : NetNode) (w : Word) (i : Nat) :
    (n.status w).getLsbD i =
      if i = 4 then n.enMsgIn else if i = 5 then n.enOutEmpty
      else if 8 ≤ i ∧ i < 16 then n.id.getLsbD (i - 8) else w.getLsbD i := by
  by_cases hi : i < 32
  · rw [NetNode.status, BitVec.getLsbD_append (n := 28) (m := 4)]
    simp only [BitVec.getLsbD_append]
    interval_cases i <;> simp
  · rw [BitVec.getLsbD_of_ge _ _ (by omega), BitVec.getLsbD_of_ge w _ (by omega), if_neg (by omega), if_neg (by omega),
      if_neg (by omega)]

theorem NetNode.extractLsb'_status (n : NetNode) (w : Word) : (n.status w).extractLsb' 8 8 = n.id := by
  apply BitVec.eq_of_getLsbD_eq
  intro i hi
  rw [BitVec.getLsbD_extractLsb', NetNode.getLsbD_status, if_neg (by omega), if_neg (by omega), if_pos (by omega),
    Nat.add_sub_cancel_left]
  simp [hi]

/-- Settles O54: the enables and the id stand in their bits of the status word, the answer in all others. -/
theorem netNodeCommandRegister : Obligations.NetNodeCommandRegister := by
  refine fun s v w => ⟨rfl, rfl, rfl, NetNode.extractLsb'_status .., ?_, ?_, fun i hi => ?_, rfl⟩
  · exact NetNode.getLsbD_status s.dev.netNode w 4
  · exact NetNode.getLsbD_status s.dev.netNode w 5
  · simp only [List.mem_cons, List.not_mem_nil, or_false, not_or] at hi
    rw [portValue, NetNode.getLsbD_status, if_neg (by omega), if_neg (by omega), if_neg (by omega)]

/-! ## netNode: the data register (60_exceptions.md R227) -/

/-- What setting the output address does: the input address follows where there is one register for both. -/
theorem NetNode.setOutAddr_eq (n : NetNode) (m : BufAddr) (a : BitVec 6) :
    n.setOutAddr m a = { n with outAddr := a, inAddr := if m = .shared then a else n.inAddr } := by
  cases m <;> rfl

theorem NetNode.setInAddr_eq (n : NetNode) (m : BufAddr) (a : BitVec 6) :
    n.setInAddr m a = { n with inAddr := a, outAddr := if m = .shared then a else n.outAddr } := by
  cases m <;> rfl

theorem portWriteEffect_netData_of_canAppend {s : State} (h : s.dev.netNode.canAppend = true) (v : Word) :
    (portWriteEffect .netData v s).dev.netNode = s.dev.netNode.append s.params.bufAddr v := by
  rw [portWriteEffect, if_pos h, State.setNetNode_dev]

theorem portReadEffect_netData_of_canTake {s : State} (h : s.dev.netNode.canTake = true) (w : Word) :
    (portReadEffect .netData w s).dev.netNode = s.dev.netNode.take s.params.bufAddr w := by
  rw [portReadEffect, if_pos h, State.setNetNode_dev]

/-- A word of a buffer after one was put at an address inside it. -/
theorem getElem_setIfInBounds_comm {n : Nat} (buf : Vector Word n) (a k : Nat) (v : Word) (hk : k < n) :
    (buf.setIfInBounds a v)[k] = if k = a then v else buf[k] := by
  rw [Vector.getElem_setIfInBounds]
  simp only [eq_comm]

/-- Settles O55: under the protocol the accesses are `NetNode.append` and `NetNode.take`. -/
theorem netNodeDataRegister : Obligations.NetNodeDataRegister := by
  refine fun s v k hk => ⟨rfl, ?_, ?_, fun hfree haddr => ?_, fun hready haddr => ?_⟩
  · simp only [portWriteEffect]
    split <;> rfl
  · simp only [portReadEffect]
    split <;> rfl
  · have hcan : s.dev.netNode.canAppend = true := by simp [NetNode.canAppend, hfree, haddr]
    rw [portWriteEffect_netData_of_canAppend hcan, NetNode.append, NetNode.setOutAddr_eq]
    exact ⟨getElem_setIfInBounds_comm .., rfl, rfl, rfl, rfl, rfl, hfree⟩
  · have hcan : s.dev.netNode.canTake = true := by simp [NetNode.canTake, hready, haddr]
    rw [portReadEffect_netData_of_canTake hcan, NetNode.take, NetNode.setInAddr_eq]
    exact ⟨getElem_setIfInBounds_comm .., rfl, rfl, rfl, rfl, rfl, hready⟩

/-! ## RS232 (60_exceptions.md R232, R233) -/

/-- Each bit of a read of the command register: the enable, and the answer from outside. -/
theorem Rs232.getLsbD_status (r : Rs232) (w : Word) (i : Nat) :
    (r.status w).getLsbD i = if i = 3 then r.enRx else w.getLsbD i := by
  by_cases hi : i < 32
  · rw [Rs232.status, BitVec.getLsbD_append (n := 29) (m := 3)]
    simp only [BitVec.getLsbD_append]
    interval_cases i <;> simp
  · rw [BitVec.getLsbD_of_ge _ _ (by omega), BitVec.getLsbD_of_ge w _ (by omega), if_neg (by omega)]

theorem low_byte (v : Word) : v.extractLsb' 0 8 = v.setWidth 8 := (BitVec.setWidth_eq_extractLsb' (by decide)).symm

/-- Settles O56: the enable stands in bit 3 of the status word, and the data accesses follow the status last read. -/
theorem rsRegisters : Obligations.RsRegisters := by
  refine fun s v w => ⟨rfl, Rs232.getLsbD_status s.dev.rs232 w 3, fun i hi => ?_, rfl, rfl, ?_, fun hready => ?_, ?_,
    fun hready => ?_⟩
  · rw [portValue, Rs232.getLsbD_status, if_neg hi]
  · simp only [portReadEffect]
    split <;> rfl
  · rw [portReadEffect, if_pos hready, ← low_byte]
    rfl
  · simp only [portWriteEffect]
    split <;> rfl
  · rw [portWriteEffect, if_pos hready, ← low_byte]
    rfl

/-! ## Timer, LCD, LEDs and switches (60_exceptions.md R235, R237, R239) -/

/-- Settles O57: each access is one update of its device. -/
theorem boardRegisters : Obligations.BoardRegisters := by
  refine fun s v => ⟨rfl, rfl, rfl, rfl, ?_, rfl, ?_, rfl, fun q hq => ?_, fun q hq => ?_⟩
  · rw [← low_byte]
    rfl
  · rw [← low_byte]
    rfl
  · simp only [List.mem_cons, List.not_mem_nil, or_false] at hq
    rcases hq with rfl | rfl | rfl | rfl <;> rfl
  · simp only [List.mem_cons, List.not_mem_nil, or_false] at hq
    rcases hq with rfl | rfl | rfl | rfl | rfl | rfl <;> rfl

/-! ## DDR2 (60_exceptions.md R240 to R242) -/

/-- The word index is 7 as a number and as a register. -/
theorem index_eq_seven_iff (a : BitVec 3) : a = 7#3 ↔ a.toNat = 7 := by
  rw [← BitVec.toNat_inj]
  rfl

/-- A command under the protocol (R241). -/
theorem ddr2_of_command {s : State} (h : s.dev.ddr2.afReady = true) (v : Word) :
    (portWriteEffect .ddrCommand v s).dev.ddr2 = s.dev.ddr2.command v := by
  rw [portWriteEffect, if_pos h, State.setDdr2_dev]

/-- A data write under the protocol (R242). -/
theorem ddr2_of_put {s : State} (h : s.dev.ddr2.wbReady = true) (v : Word) :
    (portWriteEffect .ddrData v s).dev.ddr2 = s.dev.ddr2.put v := by
  rw [portWriteEffect, if_pos h, State.setDdr2_dev]

/-- A data read under the protocol (R242). -/
theorem ddr2_of_get {s : State} (h : s.dev.ddr2.rbReady = true) (w : Word) :
    (portReadEffect .ddrData w s).dev.ddr2 = s.dev.ddr2.get := by
  rw [portReadEffect, if_pos h, State.setDdr2_dev]

/-- The blocks that came in: one for each read taken, or one that is not accounted for. -/
theorem Ddr2.arrivals_cases (d : Ddr2) (w : Word) (k : Nat) :
    d.arrivals w k = d.readsAmong k ∨
      (d.arrivals w k = 1 ∧ w.getLsbD 30 = true ∧ d.rbReady = false ∧ d.rb = []) := by
  unfold Ddr2.arrivals
  split
  · next h =>
    simp only [Bool.and_eq_true, Bool.not_eq_true', List.isEmpty_iff] at h
    obtain ⟨⟨⟨hbit, hready⟩, hrb⟩, _⟩ := h
    exact .inr ⟨rfl, hbit, hready, hrb⟩
  · exact .inl rfl

/-- The read buffer and RB after a status answer: the oldest block moved to the buffer, or both are as before but for the blocks
that came in. -/
theorem Ddr2.observe_cases (d : Ddr2) (w : Word) (k m : Nat) (free : Bool) (blocks : List (Vector Word 8))
    (hlen : blocks.length = d.arrivals w k) :
    let l := d.observe w k m (d.refilled w k free) blocks
    (w.getLsbD 30 = true ∧ l.readBuf :: l.rb = d.rb ++ blocks) ∨
      ((w.getLsbD 30 = true → d.rbReady = true) ∧ l.readBuf = d.readBuf ∧ l.rb = d.rb ++ blocks) := by
  cases hnext : d.refilled w k free with
  | true =>
    have hne : d.rb ++ blocks ≠ [] := by
      intro hnil
      obtain ⟨hrb, rfl⟩ := List.append_eq_nil_iff.1 hnil
      rcases Ddr2.refilled_from hnext with h | h
      · exact h hrb
      · exact h hlen.symm
    rw [Ddr2.refilled, Bool.and_eq_true] at hnext
    obtain ⟨hbit, _⟩ := hnext
    obtain ⟨block, rest, hcons⟩ := List.exists_cons_of_ne_nil hne
    refine .inl ⟨hbit, ?_⟩
    simp [Ddr2.observe, hcons]
  | false =>
    refine .inr ⟨fun hbit => ?_, rfl, rfl⟩
    simp only [Ddr2.refilled, hbit, Bool.true_and, Bool.or_eq_false_iff, Bool.not_eq_false'] at hnext
    obtain ⟨hready, _⟩ := hnext
    exact hready

/-- What a read of the status leaves (R241): how much the controller did meanwhile is free. -/
theorem ddr2_of_status (s : State) (w : Word) :
    ∃ k m free blocks, blocks.length = s.dev.ddr2.arrivals w k ∧
      (portReadEffect .ddrCommand w s).dev.ddr2 =
        s.dev.ddr2.observe w k m (s.dev.ddr2.refilled w k free) blocks :=
  ⟨_, _, _, _, Oracle.length_blocks _ _, rfl⟩

/-- Settles O58: under the protocol the accesses are `Ddr2.command`, `Ddr2.put` and `Ddr2.get`, and a status read is
`Ddr2.observe` with free amounts. -/
theorem ddrRegisters : Obligations.DdrRegisters := by
  intro s v j hj
  obtain ⟨k, m, free, blocks, hlen, hl⟩ := ddr2_of_status s v
  refine ⟨fun hready => ?_, fun hready => ?_, fun hready => ⟨fun hindex => ?_, ?_⟩, fun hready => ?_, rfl, rfl, rfl, rfl, rfl,
    rfl, rfl, ⟨k, m, blocks, ?_, ?_, ?_, ?_⟩, fun q hq => ?_⟩
  · rw [ddr2_of_command hready, Ddr2.command, BitVec.setWidth_eq_extractLsb' (by decide)]
  · rw [ddr2_of_put hready, Ddr2.put]
    refine ⟨getElem_setIfInBounds_comm .., BitVec.toNat_add .., ?_, rfl, rfl, rfl⟩
    simp only [index_eq_seven_iff]
  · subst hindex
    rw [portValue, if_pos hready]
    rfl
  · rw [ddr2_of_get hready, Ddr2.get, hready, Bool.true_and]
    simp only [ne_eq, index_eq_seven_iff]
  · rw [portValue, hready]
    rfl
  · rw [hl]
    rfl
  · rw [hl]
    rfl
  · obtain h | ⟨h, hbit, hempty, hrb⟩ := Ddr2.arrivals_cases s.dev.ddr2 v k
    · exact .inl (hlen.trans h)
    · exact .inr ⟨hlen.trans h, hbit, hempty, hrb⟩
  · rw [hl]
    exact Ddr2.observe_cases s.dev.ddr2 v k m free blocks hlen
  · simp only [List.mem_cons, List.not_mem_nil, or_false] at hq
    rcases hq with rfl | rfl
    · simp only [portWriteEffect, portReadEffect]
      constructor <;> split <;> rfl
    · simp only [portWriteEffect]
      refine ⟨?_, rfl⟩
      split <;> rfl

end Sys2Proof.Machine
end
